-- ==== Sys2Proof/Word.lean ====
section
/-! DEFINITION. The plainest types of the model: a line or word of the serial link as a list of
characters, and a moment of the part's own running time (R184) as a count of milliseconds. -/

namespace Sys2Proof

/-- A piece of printable text: a word of a request, a name, a line sent or printed. -/
abbrev Text := List Char

/-- A moment of the part's own running time, in milliseconds. It is not the day clock (R184). -/
abbrev Moment := Nat

end Sys2Proof
end

