-- ==== Sys2Proof/Syntax.lean ====
section
/-! DEFINITION. The commands of the part: one constructor of `Instr` for each row of
spec/opcode_table.json. Thirty-three rows are request lines of the newsroom link; the others are
events from the transmitter, the circuit, the panel, the printer, the timers and the supply. -/

namespace Sys2Proof

/-- A character as the UART delivers it: its 8-bit code, and whether its frame was in error (R167). -/
structure RxChar where
  code : BitVec 8
  framing : Bool
  deriving DecidableEq, Repr

/-- Why a completed line is no request (R169, checks 1 to 3). -/
inductive BadLine where
  | long         -- marked long (check 1)
  | illFormed    -- an unprintable character, or a space too many (check 2)
  | unknownName  -- its first word is no request name (check 3)
  deriving DecidableEq, Repr

/-- The rates the baud selection pins choose from (R180). -/
inductive Baud where
  | b1200 | b2400 | b4800 | b9600
  deriving DecidableEq, Repr

/-- The readings of the battery monitor, and the battery state (R182). -/
inductive Battery where
  | good | low | failed
  deriving DecidableEq, Repr

/-- A character of the return channel (R99): a letter A to Z, or an unreadable character. -/
inductive ReturnChar where
  | letter (i : Fin 26)
  | unreadable
  deriving DecidableEq, Repr

/-- What the part reads from its pins at power-up: baud selection (R180), cover switch (R25, R49),
battery monitor (R187), paper sense (R166), the return pair's break tone (R107) and the first
temperature reading (R48). -/
structure PowerPins where
  baud : Baud
  coverClosed : Bool
  battery : Battery
  paperPresent : Bool
  tonePresent : Bool
  temperature : Int
  deriving DecidableEq, Repr

/-- A completed line of the newsroom link, by the row of the table that takes it. Where the owner's
own checks judge the words (how many there are, their form), the row carries all the words after the
request name; where the row is one fixed form, it carries what that form leaves open. -/
inductive Request where
  | queue (args : List Text)
  | mount (args : List Text)
  | start (args : List Text)
  | hold (args : List Text)
  | go (args : List Text)
  | kill (args : List Text)
  | repeatPass (args : List Text)
  | list (args : List Text)
  | stationDefine (args : List Text)
  | stationOff (s : Text)
  | stationRead (s : Text)
  | stationList
  | maskChange (args : List Text)
  | maskRead
  | setKeys (args : List Text)
  | getKeys (args : List Text)
  | curveLoad (args : List Text)
  | curveRead (args : List Text)
  | cal (args : List Text)
  | calDefault
  | clockRead
  | clockSet (args : List Text)
  | receiptRead (args : List Text)
  | receiptList
  | slipRequest (args : List Text)
  | slipRead
  | status (args : List Text)
  | reportsOn
  | reportsOff
  | reportsRead (args : List Text)
  | clear (args : List Text)
  | reset (args : List Text)
  | invalidLine (why : BadLine)
  deriving DecidableEq, Repr

/-- The commands of the block, one constructor per row of spec/opcode_table.json, in its order. -/
inductive Instr where
  | queue (args : List Text)
  | mount (args : List Text)
  | start (args : List Text)
  | hold (args : List Text)
  | go (args : List Text)
  | kill (args : List Text)
  | repeatPass (args : List Text)
  | list (args : List Text)
  | stationDefine (args : List Text)
  | stationOff (s : Text)
  | stationRead (s : Text)
  | stationList
  | maskChange (args : List Text)
  | maskRead
  | setKeys (args : List Text)
  | getKeys (args : List Text)
  | curveLoad (args : List Text)
  | curveRead (args : List Text)
  | cal (args : List Text)
  | calDefault
  | clockRead
  | clockSet (args : List Text)
  | receiptRead (args : List Text)
  | receiptList
  | slipRequest (args : List Text)
  | slipRead
  | status (args : List Text)
  | reportsOn
  | reportsOff
  | reportsRead (args : List Text)
  | clear (args : List Text)
  | reset (args : List Text)
  | invalidLine (why : BadLine)
  | characterReceived (c : RxChar)
  | interCharacterTimeout
  | lineSent
  | coverClose
  | coverOpen
  | sendKey
  | holdKey
  | stopKey
  /-- An index mark; the operand is the measured period in microseconds of the revolution it ends. -/
  | indexMark (period : Nat)
  /-- A sample position and the photocell sample taken there. -/
  | samplePosition (position : Nat) (sample : BitVec 12)
  | lockTimerExpiry
  | tachometerSilence
  | spinUpEntryExpiry
  | idleHoldExpiry
  | homeSwitch
  | returnTimerExpiry
  | stepSense
  | endSwitch
  | warmUpExpiry
  | lampCurrentFault
  /-- A reading of the lamp housing temperature, in whole degrees Celsius as the sensor gives it. -/
  | temperatureReading (degrees : Int)
  | carrierPresent
  | returnCharacter (c : ReturnChar)
  | slotEnd
  | callupSignalEnd
  | endSignalEnd
  | killSignalEnd
  | holdDeadline
  | breakDeadline
  | toneOn
  | toneOff
  | armingTimerExpiry
  | endingTimerExpiry
  | slipLinePrinted
  | paperOut
  | paperIn
  | secondEvent
  | batteryChange (reading : Battery)
  | retentionLatchSet
  | powerUp (pins : PowerPins)
  | mainPowerLoss
  deriving DecidableEq, Repr

/-- The command that delivers a request line. -/
def Request.toInstr : Request → Instr
  | .queue a => .queue a
  | .mount a => .mount a
  | .start a => .start a
  | .hold a => .hold a
  | .go a => .go a
  | .kill a => .kill a
  | .repeatPass a => .repeatPass a
  | .list a => .list a
  | .stationDefine a => .stationDefine a
  | .stationOff s => .stationOff s
  | .stationRead s => .stationRead s
  | .stationList => .stationList
  | .maskChange a => .maskChange a
  | .maskRead => .maskRead
  | .setKeys a => .setKeys a
  | .getKeys a => .getKeys a
  | .curveLoad a => .curveLoad a
  | .curveRead a => .curveRead a
  | .cal a => .cal a
  | .calDefault => .calDefault
  | .clockRead => .clockRead
  | .clockSet a => .clockSet a
  | .receiptRead a => .receiptRead a
  | .receiptList => .receiptList
  | .slipRequest a => .slipRequest a
  | .slipRead => .slipRead
  | .status a => .status a
  | .reportsOn => .reportsOn
  | .reportsOff => .reportsOff
  | .reportsRead a => .reportsRead a
  | .clear a => .clear a
  | .reset a => .reset a
  | .invalidLine w => .invalidLine w

end Sys2Proof
end

