-- ==== Sys2Proof/Decode.lean ====
section
/-! DEFINITION. How a completed line of the newsroom link is read (R169, R170 and the table of
section 9.3): the line's words, its request name and the row of the table that takes it; after it the
line that each request is written as; and `decodeTableWord`, which answers `none` throughout because
spec/opcode_table.json gives no row any bits. -/

namespace Sys2Proof

/-- The request names of the table in section 9.3. -/
inductive ReqName where
  | queue | mount | start | hold | go | kill | repeatPass | list | station | mask | setKeys | getKeys
  | curve | cal | clock | receipt | slip | status | reports | clear | reset
  deriving DecidableEq, Repr

/-- Every request name, in the order of the table in section 9.3. -/
def ReqName.all : List ReqName :=
  [.queue, .mount, .start, .hold, .go, .kill, .repeatPass, .list, .station, .mask, .setKeys, .getKeys,
   .curve, .cal, .clock, .receipt, .slip, .status, .reports, .clear, .reset]

/-- A request name as it stands on the link, in capitals (R169 check 3). -/
def ReqName.text : ReqName → Text
  | .queue => "QUEUE".toList
  | .mount => "MOUNT".toList
  | .start => "START".toList
  | .hold => "HOLD".toList
  | .go => "GO".toList
  | .kill => "KILL".toList
  | .repeatPass => "REPEAT".toList
  | .list => "LIST".toList
  | .station => "STATION".toList
  | .mask => "MASK".toList
  | .setKeys => "SET".toList
  | .getKeys => "GET".toList
  | .curve => "CURVE".toList
  | .cal => "CAL".toList
  | .clock => "CLOCK".toList
  | .receipt => "RECEIPT".toList
  | .slip => "SLIP".toList
  | .status => "STATUS".toList
  | .reports => "REPORTS".toList
  | .clear => "CLEAR".toList
  | .reset => "RESET".toList

/-- The request name a word spells, letters not folded (R169). -/
def reqName? (w : Text) : Option ReqName :=
  ReqName.all.find? fun n => n.text == w

/-- A character from space to tilde (R167). -/
def isPrintable (c : Char) : Bool := 32 ≤ c.toNat && c.toNat ≤ 126

/-- What the input buffer keeps of a received character (R167): a printable character as itself; a
character with a framing error, or outside the printable range, as an unprintable one (`none`). -/
def bufferChar (c : RxChar) : Option Char :=
  if c.framing then none
  else if 32 ≤ c.code.toNat && c.code.toNat ≤ 126 then some (Char.ofNat c.code.toNat)
  else none

/-- A carriage return without a framing error (R167). That one with a framing error ends no line is the model's
choice (log entry 57). -/
def isCR (c : RxChar) : Bool := !c.framing && c.code == 13#8

/-- A line feed without a framing error (R167). That one with a framing error is kept as an unprintable character is
the model's choice (log entry 57). -/
def isLF (c : RxChar) : Bool := !c.framing && c.code == 10#8

/-- The pieces of a text between the occurrences of a separator, empty pieces kept. -/
def splitOn (sep : Char) : Text → List Text
  | [] => [[]]
  | c :: cs =>
    if c = sep then [] :: splitOn sep cs
    else
      match splitOn sep cs with
      | [] => [[c]]
      | w :: ws => (c :: w) :: ws

/-- The texts put end to end with a separator between each two. -/
def joinWith (sep : Char) : List Text → Text
  | [] => []
  | [w] => w
  | w :: v :: ws => w ++ sep :: joinWith sep (v :: ws)

/-- All the values, if every one is present. -/
def allSome {α : Type} : List (Option α) → Option (List α)
  | [] => some []
  | none :: _ => none
  | some a :: rest =>
    match allSome rest with
    | none => none
    | some as => some (a :: as)

/-- The row of the table that takes a line with a given request name and words (section 9.3). A line
that fits no form of its name goes to the row whose owner's first check refuses it. -/
def requestOf : ReqName → List Text → Request
  | .queue, args => .queue args
  | .mount, args => .mount args
  | .start, args => .start args
  | .hold, args => .hold args
  | .go, args => .go args
  | .kill, args => .kill args
  | .repeatPass, args => .repeatPass args
  | .list, args => .list args
  | .station, [] => .stationList
  | .station, [s] => .stationRead s
  | .station, [s, w] => if w = "OFF".toList then .stationOff s else .stationDefine [s, w]
  | .station, args => .stationDefine args
  | .mask, [] => .maskRead
  | .mask, args => .maskChange args
  | .setKeys, args => .setKeys args
  | .getKeys, args => .getKeys args
  | .curve, [] => .curveRead []
  | .curve, [k] => .curveRead [k]
  | .curve, args => .curveLoad args
  | .cal, args => if args = ["DEFAULT".toList] then .calDefault else .cal args
  | .clock, [] => .clockRead
  | .clock, args => .clockSet args
  | .receipt, [] => .receiptList
  | .receipt, args => .receiptRead args
  | .slip, [] => .slipRead
  | .slip, args => .slipRequest args
  | .status, args => .status args
  | .reports, args =>
    if args = ["ON".toList] then .reportsOn
    else if args = ["OFF".toList] then .reportsOff
    else .reportsRead args
  | .clear, args => .clear args
  | .reset, args => .reset args

/-- How a completed line is taken (R169): check 1 its long mark, check 2 its characters and spaces,
check 3 its request name. -/
def decodeLine (chars : List (Option Char)) (long : Bool) : Request :=
  if long then .invalidLine .long
  else
    match allSome chars with
    | none => .invalidLine .illFormed
    | some line =>
      let words := splitOn ' ' line
      if words.any (·.isEmpty) then .invalidLine .illFormed
      else
        match words with
        | [] => .invalidLine .illFormed
        | name :: args =>
          match reqName? name with
          | none => .invalidLine .unknownName
          | some n => requestOf n args

/-- The request name and the words of the line a request is written as; an invalid line has none. -/
def requestWords : Request → Option (ReqName × List Text)
  | .queue a => some (.queue, a)
  | .mount a => some (.mount, a)
  | .start a => some (.start, a)
  | .hold a => some (.hold, a)
  | .go a => some (.go, a)
  | .kill a => some (.kill, a)
  | .repeatPass a => some (.repeatPass, a)
  | .list a => some (.list, a)
  | .stationDefine a => some (.station, a)
  | .stationOff s => some (.station, [s, "OFF".toList])
  | .stationRead s => some (.station, [s])
  | .stationList => some (.station, [])
  | .maskChange a => some (.mask, a)
  | .maskRead => some (.mask, [])
  | .setKeys a => some (.setKeys, a)
  | .getKeys a => some (.getKeys, a)
  | .curveLoad a => some (.curve, a)
  | .curveRead a => some (.curve, a)
  | .cal a => some (.cal, a)
  | .calDefault => some (.cal, ["DEFAULT".toList])
  | .clockRead => some (.clock, [])
  | .clockSet a => some (.clock, a)
  | .receiptRead a => some (.receipt, a)
  | .receiptList => some (.receipt, [])
  | .slipRequest a => some (.slip, a)
  | .slipRead => some (.slip, [])
  | .status a => some (.status, a)
  | .reportsOn => some (.reports, ["ON".toList])
  | .reportsOff => some (.reports, ["OFF".toList])
  | .reportsRead a => some (.reports, a)
  | .clear a => some (.clear, a)
  | .reset a => some (.reset, a)
  | .invalidLine _ => none

/-- The line a request is written as, without its carriage return; an invalid line is none. -/
def encodeLine (r : Request) : Option Text :=
  (requestWords r).map fun p => joinWith ' ' (p.1.text :: p.2)

/-- The command that a word of the opcode table spells: spec/opcode_table.json gives no row any bits,
so no word spells one. -/
def decodeTableWord (_nbits _w : Nat) : Option Instr := none

end Sys2Proof
end

