-- ==== Sys2Proof/Config.lean ====
section
/-! DEFINITION. What the manual fixes once for the whole part (capacities and durations), and the
free values: results the manual leaves unstated, as constants without a body. -/

namespace Sys2Proof.Config

/-- Most job records in the queue (chapter 1, R2 check 7). -/
def queueCap : Nat := 8
/-- Most records in the receipt log (R153). -/
def logCap : Nat := 16
/-- Most reports waiting in the report queue (R172). -/
def reportCap : Nat := 32
/-- Most characters in the input line buffer (R167). -/
def lineCap : Nat := 120
/-- Most records in the line store (R65). -/
def storeCap : Nat := 2
/-- Most spin-up starts in any 15 minutes (R36). -/
def spinUpCap : Nat := 6
/-- The age at which a spin-up list entry stops counting: 15 minutes (R36). -/
def spinUpAge : Nat := 900000
/-- The lock timer, 20 s (R29). -/
def lockTime : Nat := 20000
/-- The return timer, 3.0 s (R41). -/
def returnTime : Nat := 3000
/-- The lamp's warm-up, 60 s (R45). -/
def warmUpTime : Nat := 60000
/-- The period of the temperature readings, 4 s (R48). -/
def tempPeriod : Nat := 4000
/-- One slot of a round, 250 ms (section 5.3). -/
def slotTime : Nat := 250
/-- The break detector's arming timer, 300 ms (R104). -/
def armingTime : Nat := 300
/-- The break detector's ending timer, 2 s (R104). -/
def endingTime : Nat := 2000
/-- The inter-character timer, 10 s (R168). -/
def charTime : Nat := 10000
/-- One line of a slip, 0.3 s (R162). -/
def slipLineTime : Nat := 300
/-- The end signal (R128) and the kill signal (R146), 3.0 s each. -/
def signalTime : Nat := 3000
/-- The Fw that opens the call-up signal, 2.0 s (R112). -/
def callupLead : Nat := 2000
/-- One select burst, 0.5 s (R112). -/
def burstTime : Nat := 500
/-- Sample positions of a revolution (R31). -/
def positions : Nat := 1280
/-- The first picture position, where the take falls (R66). -/
def pictureStart : Nat := 48
/-- Tone codes of a line (R64). -/
def lineCodes : Nat := 1232
/-- Counts that stop at 65,535: noise counts (R92) and the garble count (R103). -/
def countCap : Nat := 65535

/-- FREE VALUE (DESIGN CHOICE, log entry 30). How a slip prints a figure too large for its columns:
the manual states only figures that fit (section 8.5). Arguments: the width and the figure. -/
opaque wideFigure : Nat → Nat → Text

/-- FREE VALUE (DESIGN CHOICE, log entry 31). What stands in the four noise-count columns of a
station line of an interrupted pass, which holds no noise count (R152, section 8.5). -/
opaque interruptedNoise : Text

/-- FREE VALUE (DESIGN CHOICE, log entry 8). The code at a picture position that was not read before a
later one or before the line ended: the manual has every position of a revolution raised (R31). -/
opaque unreadCode : Nat → Fin 256

end Sys2Proof.Config
end

