-- ==== Sys2Proof/Machine/State.lean ====
section
/-! DEFINITION. Everything the part holds, block by block as the manual divides it, as plain data; the
lines it sends (replies and reports); the faults and refusals of a step; and the machine after a
power-up with a spoiled backup domain, `State.reset`. -/

namespace Sys2Proof.Machine

/-! ### Names the manual gives to fixed choices -/

/-- The priorities of a job (section 1.1). -/
inductive Priority where
  | routine | urgent | flash
  deriving DecidableEq, Repr

/-- The pitches, in lines per inch (section 1.1). -/
inductive Pitch where
  | p100 | p125 | p150
  deriving DecidableEq, Repr

/-- Lines per inch. -/
def Pitch.lpi : Pitch → Nat
  | .p100 => 100
  | .p125 => 125
  | .p150 => 150

/-- The drum speeds (section 2.1). -/
inductive Speed where
  | s60 | s90 | s120
  deriving DecidableEq, Repr

/-- Revolutions per minute. -/
def Speed.rpm : Speed → Nat
  | .s60 => 60
  | .s90 => 90
  | .s120 => 120

/-- The states of a job (section 1.4). -/
inductive JobState where
  | queued | mounted | released | active | finished
  deriving DecidableEq, Repr

/-- The load state of the drum (section 1.4): OPEN, UNBOUND and BOUND. -/
inductive LoadState where
  | coverOpen | unbound | bound
  deriving DecidableEq, Repr

/-- What a `*RELEASE` report gives as cause (R15). -/
inductive ReleaseCause where
  | start | key | time | pending | repeatPass
  deriving DecidableEq, Repr

/-- The causes of a wait, one per missing start condition (R16, R19). -/
inductive Cause where
  | drum | budget | lamp | cal | circuit | log
  deriving DecidableEq, Repr

/-- The drum states (section 2.1). -/
inductive DrumState where
  | parked | spinningUp | slewing | locking | locked | coasting
  deriving DecidableEq, Repr

/-- The kind of an approach (R26). -/
inductive Approach where
  | spin | slew
  deriving DecidableEq, Repr

/-- The carriage states (section 2.8). -/
inductive CarriageState where
  | unhomed | home | stepping | returning
  deriving DecidableEq, Repr

/-- The lamp states (section 2.9). -/
inductive LampState where
  | off | warming | ready | fault
  deriving DecidableEq, Repr

/-- What a `*DRUM FAULT` report names (R32, R44). -/
inductive DrumFault where
  | timeout | lock | carriage
  deriving DecidableEq, Repr

/-- The calibration states (section 4.1). -/
inductive CalState where
  | none | running | fresh | stale | failed
  deriving DecidableEq, Repr

/-- The states of the break detector (section 5.5). -/
inductive DetectorState where
  | clear | arming | present | ending
  deriving DecidableEq, Repr

/-- The kinds of reply a station can give (R101). -/
inductive ReplyKind where
  | ready | ok | noise | stop | received | repeatPass
  deriving DecidableEq, Repr

/-- What a slot's record is decided as (R100). -/
inductive SlotKind where
  | empty | garbled | reply (k : ReplyKind)
  deriving DecidableEq, Repr

/-- A slot result: its kind, and the break mark (R102). -/
structure SlotResult where
  kind : SlotKind
  breakMark : Bool
  deriving DecidableEq, Repr

/-- The circuit states of the Sender (chapter 6). -/
inductive CircuitState where
  | free | broken | callup | answer | phasing | picture | ending | gathering | paused | killing
  deriving DecidableEq, Repr

/-- The resume points of a pause (chapter 7). -/
inductive ResumePoint where
  | rephase | phasing | callup | ending | gathering
  deriving DecidableEq, Repr

/-- Why a party station was dropped (section 6.1). -/
inductive DropReason where
  | stop | silent | masked
  deriving DecidableEq, Repr

/-- The party states (section 6.1); a drop carries its reason and the lines sent at its moment. -/
inductive PartyState where
  | invited | joined | absent | masked
  | dropped (why : DropReason) (line : Nat)
  | received | repeatAsked | noReceipt
  deriving DecidableEq, Repr

/-- The outcomes of a pass (R151). -/
inductive PassOutcome where
  | complete | partialReceipt | killed | failed | interrupted
  deriving DecidableEq, Repr

/-- The failure reasons (R151). -/
inductive Reason where
  | noAnswer | noParty | drive | lamp | reference | fills | carriage | cover
  | holdTimeout | breakTimeout | reset | power
  deriving DecidableEq, Repr

/-- The slip states of a pass (R151). -/
inductive SlipState where
  | pending | printing | printed | skipped
  deriving DecidableEq, Repr

/-- The printer states (section 8.6). -/
inductive PrinterState where
  | ready | printing | paperOut
  deriving DecidableEq, Repr

/-- The codes of a refusal (Introduction, Replies). `form` is NO SYNTAX. -/
inductive Code where
  | form | range | state | busy | full | unknown | duplicate | long | late
  deriving DecidableEq, Repr

/-- The nineteen keys of the settings table (section 9.6). -/
inductive Key where
  | white | black | phase | rephase | answer | answerMax | slots | silence | gather
  | idle | calDrift | holdMax | breakMax | copies | progress | bureau | temp | gain | version
  deriving DecidableEq, Repr

/-- A value shown for a key: a number, or a word. -/
inductive KeyValue where
  | num (n : Nat)
  | word (w : Text)
  deriving DecidableEq, Repr

/-- The marks of the receipt list (R158). -/
inductive LogMark where
  | openRecord | held | free
  deriving DecidableEq, Repr

/-- A day number and a second of the day, 0 to 86,399 (R184). -/
structure DayTime where
  day : Nat
  sec : Nat
  deriving DecidableEq, Repr

/-! ### The Transmission Queue (chapter 1) -/

/-- A job record (section 1.1). Its arrival rank is its place in the queue's list (R1, R4). -/
structure Job where
  number : Nat
  slug : Text
  priority : Priority
  lines : Nat
  pitch : Pitch
  speed : Speed
  curve : Nat
  stations : List Nat
  release : Option DayTime
  passNo : Nat
  state : JobState
  pendingTrigger : Bool
  calTried : Bool
  deriving DecidableEq, Repr

/-- The queue: the job records in order of arrival, the load state, and the recorded set of missing
start conditions of the RELEASED job in the order of R19. -/
structure Queue where
  jobs : List Job
  load : LoadState
  missing : List Cause
  deriving DecidableEq, Repr

/-! ### The Drum Drive (chapter 2) -/

/-- The drive: drum (R26), wants (R34), spin-up budget (R36, R37), idle hold (R38), carriage (R40),
lamp (R45) and temperature (R48). `marked` says that an index mark has arrived since the approach
began (R28); `nextPos` is the next sample position of a revolution that opened LOCKED, until the index mark
that ends it (R31, log entry 19). -/
structure Drive where
  drum : DrumState
  target : Option Speed
  lockedAt : Option Speed
  approach : Option Approach
  lockCount : Nat
  lossCount : Nat
  lockTimer : Option Moment
  faultHold : Bool
  marked : Bool
  nextPos : Option Nat
  queueWant : Option Speed
  calWant : Option Speed
  spinUps : List Moment
  pendingStart : Bool
  idleTimer : Option Moment
  carriage : CarriageState
  position : Option Nat
  stepPitch : Option Pitch
  stepWaiting : Bool
  stepFaults : Nat
  returnTimer : Option Moment
  lamp : LampState
  warmTimer : Option Moment
  temp : Nat
  nextTemp : Moment
  deriving DecidableEq, Repr

/-! ### The Calibration Unit (chapter 4) -/

/-- A run record (R77, R78): the saved step and state, the working step, the counted-revolution
number, the spoiled count, the sums of the revolution in progress and its means once formed. -/
structure CalRun where
  savedStep : Nat
  savedState : CalState
  working : Nat
  counted : Nat
  spoiled : Nat
  whiteSum : Nat
  blackSum : Nat
  means : Option (Nat × Nat)
  deriving DecidableEq, Repr

/-- The Calibration Unit (R75). -/
structure Calib where
  state : CalState
  gain : Nat
  w0 : Nat
  b0 : Nat
  tcal : Option Nat
  request : Bool
  run : Option CalRun
  deriving DecidableEq, Repr

/-! ### The Scan Unit (chapter 3) -/

/-- A line being scanned (R51): its number, its codes so far, its held-reference flag, its spoiled
mark, and the sums of its line reference (R53). -/
structure ScanLine where
  number : Nat
  codes : List Nat
  heldRef : Bool
  spoiled : Bool
  whiteSum : Nat
  blackSum : Nat
  deriving DecidableEq, Repr

/-- A line record of the store (R64). -/
structure LineRecord where
  job : Nat
  line : Nat
  codes : List Nat
  heldRef : Bool
  drift : Bool
  deriving DecidableEq, Repr

/-- The pass context (R51). `failed` marks a pass the Scan Unit has failed with REFERENCE (R56). -/
structure ScanPass where
  job : Nat
  curve : Nat
  pitch : Pitch
  lines : Nat
  nextLine : Nat
  line : Option ScanLine
  invalid : Nat
  heldRefs : Nat
  spoiledLines : Nat
  drift : Bool
  failed : Bool
  ended : Bool
  deriving DecidableEq, Repr

/-- The Scan Unit (R51): running references, loadable curves, line store, pass context. -/
structure Scan where
  wr : Nat
  br : Nat
  curve1 : List Nat
  curve2 : List Nat
  curve3 : List Nat
  store : List LineRecord
  pass : Option ScanPass
  deriving DecidableEq, Repr

/-! ### The Circuit Unit (chapter 5) -/

/-- One entry of the roster (section 5.1); a station is defined exactly while it has a name. -/
structure Station where
  name : Option Text
  masked : Bool
  maskPending : Bool
  silence : Nat
  noise : Nat
  deriving DecidableEq, Repr

/-- The running rounds (R97 to R99): slot count, round number, slot in progress with the moment it
ends, and the slot record. -/
structure Rounds where
  slots : Nat
  round : Nat
  slot : Nat
  slotEnds : Moment
  carrier : Bool
  chars : List ReturnChar
  breakSeen : Bool
  deriving DecidableEq, Repr

/-- The Circuit Unit: roster (sixteen entries, station s at place s − 1), rounds while running, garble
count and break detector with its two timers. -/
structure Circuit where
  roster : List Station
  rounds : Option Rounds
  garble : Nat
  detector : DetectorState
  armingTimer : Option Moment
  endingTimer : Option Moment
  deriving DecidableEq, Repr

/-! ### Settings (section 9.6) -/

/-- The nine guarded keys, which a pass copies at its start (R178). -/
structure Guarded where
  white : Nat
  black : Nat
  phase : Nat
  rephase : Nat
  answer : Nat
  answerMax : Nat
  slots : Nat
  silence : Nat
  gather : Nat
  deriving DecidableEq, Repr

/-- The settings store: the sixteen writable keys (R176). -/
structure Settings where
  guarded : Guarded
  idle : Nat
  calDrift : Nat
  holdMax : Nat
  breakMax : Nat
  copies : Nat
  progress : Nat
  bureau : Text
  deriving DecidableEq, Repr

/-! ### The Sender (chapters 6 and 7) -/

/-- An entry of the party list (section 6.1). -/
structure Party where
  station : Nat
  name : Option Text
  state : PartyState
  maskedInWindow : Bool
  lateReported : Bool
  result : Option SlotResult
  deriving DecidableEq, Repr

/-- The line of the picture revolution in progress, present from its take (R122, R123). -/
structure SentLine where
  codes : List Nat
  fill : Bool
  heldRef : Bool
  drift : Bool
  deriving DecidableEq, Repr

/-- The pass record (section 6.1 and the opening of chapter 7) with the drum speed the queue hands over
(R20), the pass copy of the guarded settings (R178) and the party list. `windowOpen` marks the open answer window (R114, R118). -/
structure Pass where
  job : Nat
  number : Nat
  stations : List Nat
  lines : Nat
  speed : Speed
  sent : Nat
  fills : Nat
  consecFills : Nat
  lastCodes : Option (List Nat)
  heldSent : Nat
  windowOpen : Bool
  openRound : Option Nat
  closeRound : Option Nat
  callDone : Bool
  phaseCount : Nat
  lastPhasing : Bool
  gatherCount : Nat
  outcome : Option PassOutcome
  reason : Option Reason
  secondary : Option Reason
  detached : Bool
  holdReason : Bool
  breakReason : Bool
  pausePending : Bool
  resume : Option ResumePoint
  rephase : Bool
  holdDeadline : Option Moment
  breakDeadline : Option Moment
  line : Option SentLine
  copy : Guarded
  party : List Party
  deriving DecidableEq, Repr

/-- What the tone output carries (R111): silence, one frequency, the call-up signal to a list of
stations, or the kill signal, the last two since a moment. -/
inductive Tone where
  | silent
  | steady (hz : Nat)
  | callup (stations : List Nat) (since : Moment)
  | kill (since : Moment)
  deriving DecidableEq, Repr

/-- The Sender: circuit state, the pass while one runs, the tone output, and the moment at which the
signal in progress (call-up, end or kill signal) ends. -/
structure Sender where
  circ : CircuitState
  pass : Option Pass
  tone : Tone
  signalEnds : Option Moment
  deriving DecidableEq, Repr

/-! ### The Receipt Unit (chapter 8) -/

/-- The counts of a closed pass that power loss did not take (R151). -/
structure PassCounts where
  sent : Nat
  fills : Nat
  heldRefs : Nat
  spoiledLines : Nat
  drift : Bool
  deriving DecidableEq, Repr

/-- A station result (R152). -/
structure StationResult where
  station : Nat
  name : Option Text
  final : Option PartyState
  noise : Option Nat
  deriving DecidableEq, Repr

/-- What a pass holds from its close (R151). A stamp is absent where the clock was NOT SET. -/
structure PassClose where
  stamp : Option DayTime
  outcome : PassOutcome
  reason : Option Reason
  secondary : Option Reason
  counts : Option PassCounts
  slip : SlipState
  results : List StationResult
  deriving DecidableEq, Repr

/-- A pass of a receipt record (R151); one without a close is in progress. -/
structure PassEntry where
  number : Nat
  stations : List Nat
  start : Option DayTime
  close : Option PassClose
  deriving DecidableEq, Repr

/-- A receipt record (R150). -/
structure Record where
  job : Nat
  slug : Text
  priority : Priority
  pitch : Pitch
  speed : Speed
  lines : Nat
  isOpen : Bool
  passes : List PassEntry
  deriving DecidableEq, Repr

/-- An entry of the slip queue (R159). -/
structure SlipEntry where
  job : Nat
  pass : Nat
  copies : Nat
  reprint : Bool
  deriving DecidableEq, Repr

/-- The slip being printed: the lines still to complete, the first in progress, and its end (R162). -/
structure Printing where
  rest : List Text
  lineEnds : Moment
  deriving DecidableEq, Repr

/-- The Receipt Unit: the log and the slip queue, which live in the backup domain, and the printer
with its paper sense. -/
structure Receipts where
  log : List Record
  slips : List SlipEntry
  printer : PrinterState
  paperPresent : Bool
  printing : Option Printing
  deriving DecidableEq, Repr

/-! ### The Backup Domain (chapter 10) -/

/-- The backup domain beside the log and the slip queue: day clock, the moment its second ends, the
job-number counter, the retention latch, the battery state. -/
structure Backup where
  clock : Option DayTime
  secondEnds : Moment
  counter : Nat
  latch : Bool
  battery : Battery
  deriving DecidableEq, Repr

/-! ### Lines the part sends -/

/-- What `STATUS` shows (R175). -/
structure StatusWords where
  drum : DrumState
  speed : Option Speed
  lamp : LampState
  temp : Nat
  cal : CalState
  carriage : CarriageState
  circ : CircuitState
  hold : Bool
  brk : Bool
  job : Option Nat
  printer : PrinterState
  battery : Battery
  clock : Option DayTime
  waiting : Nat
  overflow : Bool
  garble : Nat
  deriving DecidableEq, Repr

/-- A reply line (R170). -/
inductive Reply where
  | no (c : Code)
  | queue (n : Nat)
  | list (jobs : List (Nat × Text × Priority × JobState))
  | mount (n : Nat) (released : Bool)
  | start (n : Nat) (released : Bool)
  | hold (n : Nat) (paused : Bool)
  | go (n : Nat)
  | kill (n : Nat) (removed : Bool)
  | repeatPass (n p : Nat)
  | stationDefined (s : Nat)
  | stationRenamed (s : Nat)
  | stationOff (s : Nat)
  | stationRead (s : Nat) (name : Option Text) (masked : Bool)
  | stationList (entries : List (Nat × Text))
  | maskChange (on : Bool) (s : Nat) (pending : Bool)
  | maskRead (current pending : List Nat)
  | setKeys (kvs : List (Key × KeyValue))
  | getKeys (kvs : List (Key × KeyValue))
  | curveLoad (k : Nat)
  | curveRead (k : Nat) (points : List Nat)
  | cal
  | calDefault
  | clock (c : Option DayTime)
  | receipt (r : Record)
  | receiptList (entries : List (Nat × LogMark))
  | slip (n p c : Nat)
  | slipList (entries : List (Nat × Nat × Nat))
  | status (w : StatusWords)
  | reportsOn
  | reportsOff
  | reports (on : Bool) (waiting : Nat) (overflow : Bool)
  | clear (wasSet : Bool)
  | reset
  deriving DecidableEq, Repr

/-- A report line (section 9.4). -/
inductive Report where
  | power (retained : Bool)
  | load (n : Nat)
  | loadUnbound
  | loadOpen
  | release (n : Nat) (why : ReleaseCause)
  | wait (n : Nat) (causes : List Cause)
  | start (n p : Nat)
  | line (n k h : Nat) (drift : Bool)
  | pause (n : Nat) (hold brk : Bool)
  | resume (n : Nat) (point : ResumePoint)
  | passEnd (n p : Nat) (outcome : PassOutcome) (reason : Option Reason)
  | stationJoined (n s : Nat)
  | stationDropped (n s : Nat) (why : DropReason) (k : Nat)
  | late (s : Nat)
  | drum (state : DrumState) (speed : Option Speed)
  | drumDefer (s : Nat)
  | drumFault (kind : DrumFault)
  | lampReady
  | lampFault
  | lampDrift (n t : Nat)
  | calRunning
  | calOk (g w b : Nat)
  | calFail
  | calAbort
  | calStaleLamp
  | calStaleDrift
  | breakOn
  | breakOff
  | paperOut
  | paperIn
  | slip (n p : Nat)
  | batteryLow
  | batteryFailed
  | lnkDiscard
  | lnkOverrun
  deriving DecidableEq, Repr

/-- A line in transmission. -/
inductive OutLine where
  | reply (r : Reply)
  | report (r : Report)
  deriving DecidableEq, Repr

/-! ### The Link Unit (chapter 9) -/

/-- The Link Unit: baud rate, input line buffer (`none` is an unprintable character) with its long
mark and inter-character timer, the held line and whether a character was discarded during its hold
(R169), the line in transmission, the waiting reply, the report queue, the overflow flag and the
report-pause flag. -/
structure Link where
  baud : Baud
  buffer : List (Option Char)
  long : Bool
  lineTimer : Option Moment
  held : Option Request
  overrun : Bool
  sending : Option OutLine
  waiting : Option Reply
  reports : List Report
  overflow : Bool
  paused : Bool
  deriving DecidableEq, Repr

/-! ### The whole part -/

/-- The state of the part: whether main power is present, the running time, the nine blocks and the
settings, and the commands that wait, first in first out. -/
structure State where
  powered : Bool
  now : Moment
  link : Link
  settings : Settings
  queue : Queue
  drive : Drive
  cal : Calib
  scan : Scan
  circuit : Circuit
  sender : Sender
  receipts : Receipts
  backup : Backup
  pending : List Instr
  deriving DecidableEq, Repr

/-- The faults of a step. There is none: every command of the table has an effect in every state, and
a command that cannot arise in a state leaves it as it is (log entry 4). Raised by nobody; safe. -/
inductive Fault where
  deriving DecidableEq, Repr

/-- The refusals of a step. -/
inductive Refusal where
  /-- Raised by an arm of `exec` whose command has no meaning yet; safe. No arm raises it. -/
  | notModelled (mnemonic : String)
  deriving DecidableEq, Repr

/-! ### Values at power-up -/

/-- The points of curve 0 (R60). -/
def curve0 : List Nat := (List.range 17).map fun i => (16 - i) * 255 / 16

/-- The defaults of the settings table (section 9.6). -/
def Settings.default : Settings :=
  { guarded :=
      { white := 2200, black := 1400, phase := 20, rephase := 8, answer := 2, answerMax := 6,
        slots := 16, silence := 6, gather := 3 }
    idle := 120
    calDrift := 6
    holdMax := 5
    breakMax := 10
    copies := 1
    progress := 100
    bureau := "BUREAU".toList }

/-- The Link Unit at power-up (R180). -/
def Link.fresh (baud : Baud) : Link :=
  { baud := baud
    buffer := []
    long := false
    lineTimer := none
    held := none
    overrun := false
    sending := none
    waiting := none
    reports := []
    overflow := false
    paused := false }

/-- The queue at power-up (R25). -/
def Queue.fresh (coverClosed : Bool) : Queue :=
  { jobs := []
    load := if coverClosed then .unbound else .coverOpen
    missing := [] }

/-- The drive at power-up (R49), given its first temperature reading and the moment it is taken. The lock and
loss counts 0 and the absent step pitch are the model's choice (log entry 42). -/
def Drive.fresh (temp : Nat) (now : Moment) : Drive :=
  { drum := .parked
    target := none
    lockedAt := none
    approach := none
    lockCount := 0
    lossCount := 0
    lockTimer := none
    faultHold := false
    marked := false
    nextPos := none
    queueWant := none
    calWant := none
    spinUps := []
    pendingStart := false
    idleTimer := none
    carriage := .unhomed
    position := none
    stepPitch := none
    stepWaiting := false
    stepFaults := 0
    returnTimer := none
    lamp := .off
    warmTimer := none
    temp := temp
    nextTemp := now + Config.tempPeriod }

/-- The Calibration Unit at power-up (R75). -/
def Calib.fresh : Calib :=
  { state := .none
    gain := 32
    w0 := 3600
    b0 := 400
    tcal := none
    request := false
    run := none }

/-- The Scan Unit at power-up (R74). -/
def Scan.fresh : Scan :=
  { wr := 3600
    br := 400
    curve1 := curve0
    curve2 := curve0
    curve3 := curve0
    store := []
    pass := none }

/-- A roster entry at power-up (R88). -/
def Station.fresh : Station :=
  { name := none
    masked := false
    maskPending := false
    silence := 0
    noise := 0 }

/-- The Circuit Unit at power-up (R108): a tone present is taken as a tone-on at that moment. -/
def Circuit.fresh (tonePresent : Bool) (now : Moment) : Circuit :=
  { roster := List.replicate 16 Station.fresh
    rounds := none
    garble := 0
    detector := if tonePresent then .arming else .clear
    armingTimer := if tonePresent then some (now + Config.armingTime) else none
    endingTimer := none }

/-- The Sender at power-up (R110). -/
def Sender.fresh : Sender :=
  { circ := .free
    pass := none
    tone := .silent
    signalEnds := none }

/-- The machine right after a first power-up: main power up with the retention latch set (R187), every
pin at the value log entry 2 names, and the `*POWER LOST` report, the first line, being sent. -/
def State.reset : State :=
  { powered := true
    now := 0
    link := { Link.fresh .b1200 with sending := some (.report (.power false)) }
    settings := Settings.default
    queue := Queue.fresh true
    drive := Drive.fresh 0 0
    cal := Calib.fresh
    scan := Scan.fresh
    circuit := Circuit.fresh false 0
    sender := Sender.fresh
    receipts := { log := [], slips := [], printer := .ready, paperPresent := true, printing := none }
    backup := { clock := none, secondEnds := 0, counter := 1, latch := false, battery := .good }
    pending := [] }

end Sys2Proof.Machine
end

