-- ==== Sys2Proof/Machine/Ops.lean ====
section
/-! DEFINITION. The operations that every block uses: changing one block, posting a report, moving the
running time on to the end of a timer, and finding jobs, stations and the settings of the pass. -/

namespace Sys2Proof.Machine

/-! ### Changing one block -/

def State.onLink (s : State) (f : Link → Link) : State := { s with link := f s.link }
def State.onSettings (s : State) (f : Settings → Settings) : State := { s with settings := f s.settings }
def State.onQueue (s : State) (f : Queue → Queue) : State := { s with queue := f s.queue }
def State.onDrive (s : State) (f : Drive → Drive) : State := { s with drive := f s.drive }
def State.onCal (s : State) (f : Calib → Calib) : State := { s with cal := f s.cal }
def State.onScan (s : State) (f : Scan → Scan) : State := { s with scan := f s.scan }
def State.onCircuit (s : State) (f : Circuit → Circuit) : State := { s with circuit := f s.circuit }
def State.onSender (s : State) (f : Sender → Sender) : State := { s with sender := f s.sender }
def State.onReceipts (s : State) (f : Receipts → Receipts) : State :=
  { s with receipts := f s.receipts }
def State.onBackup (s : State) (f : Backup → Backup) : State := { s with backup := f s.backup }

/-- Change the pass record, if a pass is in progress. -/
def State.onPass (s : State) (f : Pass → Pass) : State :=
  s.onSender fun x => { x with pass := x.pass.map f }

/-- Change the Scan Unit's pass context, if there is one. -/
def State.onScanPass (s : State) (f : ScanPass → ScanPass) : State :=
  s.onScan fun x => { x with pass := x.pass.map f }

/-! ### Reports and time -/

/-- A report joins the report queue; with 32 waiting it is discarded and the overflow flag is set
(R172). Its transmission begins at the end of the step (`pump`, R171). -/
def post (r : Report) (s : State) : State :=
  s.onLink fun l =>
    if l.reports.length < Config.reportCap then { l with reports := l.reports ++ [r] }
    else { l with overflow := true }

/-- Post several reports in order. -/
def postAll (rs : List Report) (s : State) : State := rs.foldl (fun s r => post r s) s

/-- A timer has run out: the running time stands at the moment it was due, or later (log entry 3). -/
def advanceTo (m : Moment) (s : State) : State := { s with now := max s.now m }

/-- The same for a timer that may not be held. -/
def advanceToOpt (m : Option Moment) (s : State) : State :=
  match m with
  | none => s
  | some d => advanceTo d s

/-! ### Reading the state -/

/-- The cover is open exactly in the load state OPEN (R6). -/
def State.coverOpen (s : State) : Bool := s.queue.load == .coverOpen

/-- The mounted job: the job in MOUNTED, RELEASED, ACTIVE or FINISHED (section 1.4). -/
def State.mountedJob (s : State) : Option Job := s.queue.jobs.find? fun j => j.state != .queued

/-- The ACTIVE job. -/
def State.activeJob (s : State) : Option Job := s.queue.jobs.find? fun j => j.state == .active

/-- The RELEASED job. -/
def State.releasedJob (s : State) : Option Job := s.queue.jobs.find? fun j => j.state == .released

/-- Some job is ACTIVE. -/
def State.anyActive (s : State) : Bool := s.queue.jobs.any fun j => j.state == .active

/-- The job with a given number. -/
def State.findJob (s : State) (n : Nat) : Option Job := s.queue.jobs.find? fun j => j.number == n

/-- The job record with number n, changed. -/
def updJob (n : Nat) (f : Job → Job) (s : State) : State :=
  s.onQueue fun q => { q with jobs := q.jobs.map fun j => if j.number = n then f j else j }

/-- The roster entry of a station number 1 to 16. -/
def State.station (s : State) (n : Nat) : Station := s.circuit.roster.getD (n - 1) Station.fresh

/-- A roster entry, changed. -/
def updStation (n : Nat) (f : Station → Station) (s : State) : State :=
  s.onCircuit fun c => { c with roster := c.roster.modify (n - 1) f }

/-- A station is defined while it has a name (section 5.1). -/
def State.defined (s : State) (n : Nat) : Bool := (s.station n).name.isSome

/-- The station numbers, ascending. -/
def stationNumbers : List Nat := List.range' 1 16

/-- Station numbers in ascending order, each once: the order in which a station list is held (R1). -/
def ascending (ns : List Nat) : List Nat := stationNumbers.filter fun n => ns.contains n

/-- Break is present from the declaration of a break to its end (R106). -/
def State.breakPresent (s : State) : Bool :=
  s.circuit.detector == .present || s.circuit.detector == .ending

/-- The lowest of a count raised by one and a limit it stops at. -/
def countUp (limit n : Nat) : Nat := min limit (n + 1)

/-! ### The whole step -/

/-- What a command does while main power is present; without it the part takes nothing (log entry 5). -/
def live (f : State → State) (s : State) : Host.Outcome State Fault Refusal :=
  .next (if s.powered then f s else s)

end Sys2Proof.Machine
end

