-- ==== Sys2Proof/Machine/LinkOps.lean ====
section
/-! DEFINITION. The Link Unit's operations on its line buffer and its output (sections 9.1, 9.2, 9.4). -/

namespace Sys2Proof.Machine

/-- The transmitter takes its next line when idle (R171): a waiting reply, otherwise, with reports not
paused, the oldest report. -/
def pumpLink (l : Link) : Link :=
  match l.sending with
  | some _ => l
  | none =>
    match l.waiting with
    | some r => { l with sending := some (.reply r), waiting := none }
    | none =>
      if l.paused then l
      else
        match l.reports with
        | [] => l
        | r :: rest => { l with sending := some (.report r), reports := rest }

/-- The end of a step at the transmitter. -/
def pump (s : State) : State := s.onLink pumpLink

/-- The input buffer after a line was taken or dropped: empty, its timer stopped (R167, R168). -/
def emptyBuffer (l : Link) : Link := { l with buffer := [], long := false, lineTimer := none }

/-- The buffer holds a partial line (R168). -/
def Link.partialLine (l : Link) : Bool := !l.buffer.isEmpty || l.long

/-- A character joins the buffer, or is discarded and marks the line long; either starts the
inter-character timer (R167, R168). -/
def acceptChar (c : RxChar) (now : Moment) (l : Link) : Link :=
  if l.buffer.length < Config.lineCap then
    { l with buffer := l.buffer ++ [bufferChar c], lineTimer := some (now + Config.charTime) }
  else { l with long := true, lineTimer := some (now + Config.charTime) }

end Sys2Proof.Machine
end

