-- ==== Sys2Proof/Machine/Flags.lean ====
section
/-! DEFINITION. What the part computes from its state without changing it: the judgement of a
revolution, the missing start conditions, whether a release time is reached or a record reclaimable,
the tone computation, and the frequency the tone output carries. -/

namespace Sys2Proof.Machine

/-! ### Revolutions (section 2.2) -/

/-- The difference between a measured period in microseconds and the nominal period of a speed, both
multiplied by the speed in rpm, so that the nominal period of 60 s / rpm is exact (R27). -/
def periodError (sp : Speed) (period : Nat) : Nat :=
  (period * sp.rpm - 60000000) + (60000000 - period * sp.rpm)

/-- The error lies within a number of thousandths of the nominal period, the limit included (R27). -/
def withinPermille (t : Nat) (sp : Speed) (period : Nat) : Bool :=
  decide (periodError sp period ≤ t * 60000)

/-! ### Release times (R14) -/

/-- A release time is reached by a day clock. -/
def reached (clock : Option DayTime) (r : DayTime) : Bool :=
  match clock with
  | none => false
  | some c =>
    !(r.day == 1 && c.day == 9999) &&
      (decide (r.day < c.day) || (r.day == c.day && decide (r.sec ≤ c.sec)))

/-- The job's release time is absent or reached (R12, R13). -/
def State.mayRelease (s : State) (j : Job) : Bool :=
  match j.release with
  | none => true
  | some r => reached s.backup.clock r

/-- The job's release time is present and reached (R8, R14). -/
def State.timeReached (s : State) (j : Job) : Bool :=
  match j.release with
  | none => false
  | some r => reached s.backup.clock r

/-- The day that follows a day number: 9999 is followed by 1 (R1, R184). -/
def nextDay (d : Nat) : Nat := if d < 9999 then d + 1 else 1

/-! ### The log (R153) -/

/-- A slip state that keeps its record from being reclaimed. -/
def SlipState.waits : SlipState → Bool
  | .pending => true
  | .printing => true
  | .printed => false
  | .skipped => false

/-- The pass is in progress (R151). -/
def PassEntry.inProgress (p : PassEntry) : Bool := p.close.isNone

/-- The pass has its slip PENDING or PRINTING. -/
def PassEntry.slipWaits (p : PassEntry) : Bool :=
  match p.close with
  | none => false
  | some c => c.slip.waits

/-- A record is reclaimable when it is CLOSED and none of its slips is PENDING or PRINTING (R153). -/
def Record.reclaimable (r : Record) : Bool := !r.isOpen && !r.passes.any PassEntry.slipWaits

/-- A pass of the record is in progress. -/
def Record.inProgress (r : Record) : Bool := r.passes.any PassEntry.inProgress

/-! ### Start conditions (R16, R19) -/

/-- The drum is LOCKED at a speed (start condition 1). -/
def State.lockedAtSpeed (s : State) (sp : Speed) : Bool :=
  s.drive.drum == .locked && s.drive.lockedAt == some sp

/-- The Receipt Unit can provide a record for the job's pass (start condition 5). -/
def State.recordAvailable (s : State) (j : Job) : Bool :=
  decide (1 < j.passNo) || decide (s.receipts.log.length < Config.logCap) ||
    s.receipts.log.any Record.reclaimable

/-- The causes of the missing start conditions of a job, in the order of R19. -/
def State.missingCauses (s : State) (j : Job) : List Cause :=
  (if s.lockedAtSpeed j.speed then []
    else if s.drive.pendingStart then [.budget] else [.drum]) ++
  (if s.drive.lamp == .ready then [] else [.lamp]) ++
  (if s.cal.state == .fresh then [] else [.cal]) ++
  (if s.sender.circ == .free then [] else [.circuit]) ++
  (if s.recordAvailable j then [] else [.log])

/-! ### The tone computation (section 3.3) -/

/-- Clamp and normalise a sample between the running references (R57). -/
def normalise (wr br x : Nat) : Nat :=
  let c := min (max x br) wr
  let d := wr - br
  ((c - br) * 1023 + d / 2) / d

/-- The tone code of a normalised value on a curve of 17 points (R58). -/
def toneCode (curve : List Nat) (n : Nat) : Nat :=
  let seg := n / 64
  let frac := n % 64
  let a : Int := curve.getD seg 0
  let b : Int := curve.getD (seg + 1) 0
  (a + ((b - a) * frac + 32) / 64).toNat

/-- The tone frequency of a code between the WHITE and BLACK frequencies (R59). -/
def toneFrequency (white black c : Nat) : Nat :=
  ((white : Int) + (((black : Int) - white) * c * 2 + 255) / 510).toNat

/-- The updated value of a running reference (R54). -/
def blend (old new : Nat) : Nat := (3 * old + new + 2) / 4

/-- The validity test of a line reference (R54). -/
def referenceValid (wl bl : Nat) : Bool := decide (2000 ≤ wl) && decide (bl + 1024 ≤ wl)

/-- The points of a curve 0 to 3 (R60). -/
def Scan.curvePoints (c : Scan) (k : Nat) : List Nat :=
  if k = 0 then curve0 else if k = 1 then c.curve1 else if k = 2 then c.curve2 else c.curve3

/-! ### The tone output (R111, R112) -/

/-- The length of the call-up signal to k stations, in milliseconds (R112). -/
def callupTime (k : Nat) : Nat := Config.callupLead + Config.burstTime * k

/-- The call-up signal, a time after its beginning: Fw for 2.0 s, then for each station a burst that
is Fb for s × 25 ms and Fw to the end of its 0.5 s; afterwards Fw (R112). -/
def callupHz (white black : Nat) (stations : List Nat) (elapsed : Nat) : Nat :=
  if elapsed < Config.callupLead then white
  else
    let t := elapsed - Config.callupLead
    match stations[t / Config.burstTime]? with
    | none => white
    | some n => if t % Config.burstTime < 25 * n then black else white

/-- The kill signal: Fw and Fb alternating every 125 ms, Fw first (R111). -/
def killHz (white black elapsed : Nat) : Nat := if elapsed / 125 % 2 = 0 then white else black

/-- The frequency the tone output carries at a moment with the frequencies of the pass copy; none
is silence (R111). -/
def Tone.hz (t : Tone) (white black now : Nat) : Option Nat :=
  match t with
  | .silent => none
  | .steady f => some f
  | .callup stations since => some (callupHz white black stations (now - since))
  | .kill since => some (killHz white black (now - since))

/-- The frequency on the tone output now (R111); the pass copy gives Fw and Fb (R178). -/
def State.toneHz (s : State) : Option Nat :=
  match s.sender.pass with
  | none => s.sender.tone.hz s.settings.guarded.white s.settings.guarded.black s.now
  | some p => s.sender.tone.hz p.copy.white p.copy.black s.now

/-- The panel display: the first eight characters of the mounted job's slug while the load state is
BOUND, and UNBOUND otherwise (R6). -/
def State.display (s : State) : Text :=
  match s.queue.load, s.mountedJob with
  | .bound, some j => j.slug.take 8
  | _, _ => "UNBOUND".toList

/-- The drum motor is on in the approach states and in LOCKED (section 2.1). -/
def DrumState.motorOn : DrumState → Bool
  | .parked => false
  | .spinningUp => true
  | .slewing => true
  | .locking => true
  | .locked => true
  | .coasting => false

/-- The drum is in an approach state (section 2.1). -/
def DrumState.approaching : DrumState → Bool
  | .parked => false
  | .spinningUp => true
  | .slewing => true
  | .locking => true
  | .locked => false
  | .coasting => false

/-- The lamp drive is on in WARMING and READY (section 2.9). -/
def LampState.lit : LampState → Bool
  | .off => false
  | .warming => true
  | .ready => true
  | .fault => false

end Sys2Proof.Machine
end

