-- ==== Sys2Proof/Machine/CircuitOps.lean ====
section
/-! DEFINITION. The Circuit Unit's operations (chapter 5): the mask, the start and stop of rounds, and
the decision of a slot. -/

namespace Sys2Proof.Machine

/-- Applying the mask copies each pending flag into the current flag (R94). -/
def applyMask (s : State) : State :=
  s.onCircuit fun c => { c with roster := c.roster.map fun e => { e with masked := e.maskPending } }

/-- The stations that an application of the mask would newly mask (R94). -/
def State.newlyMasked (s : State) : List Nat :=
  stationNumbers.filter fun n => (s.station n).maskPending && !(s.station n).masked

/-- The stations whose flags of a kind are set, ascending (R95). -/
def State.maskedBy (s : State) (f : Station → Bool) : List Nat :=
  stationNumbers.filter fun n => f (s.station n)

/-- Every silence count and noise count is set to 0 (R92, R108). -/
def zeroCounts (s : State) : State :=
  s.onCircuit fun c =>
    { c with roster := c.roster.map fun e => { e with silence := 0, noise := 0 } }

/-- A slot begins: an empty record, its break-seen mark set where break is present (R99, R106). -/
def freshSlot (slots round slot : Nat) (ends : Moment) (brk : Bool) : Rounds :=
  { slots := slots
    round := round
    slot := slot
    slotEnds := ends
    carrier := false
    chars := []
    breakSeen := brk }

/-- A start of rounds (R98): the mask applied, the counts cleared (R92), round 1 and slot 0 begun. -/
def startRounds (slots : Nat) (s : State) : State :=
  (zeroCounts (applyMask s)).onCircuit fun c =>
    { c with rounds := some (freshSlot slots 1 0 (s.now + Config.slotTime) s.breakPresent) }

/-- A stop of rounds (R98): the slot in progress abandoned, the mask applied. -/
def stopRounds (s : State) : State :=
  applyMask (s.onCircuit fun c => { c with rounds := none })

/-- The kind letters of R101, as places in the alphabet. -/
def kindLetter (i : Nat) : Option ReplyKind :=
  if i = 17 then some .ready
  else if i = 10 then some .ok
  else if i = 13 then some .noise
  else if i = 18 then some .stop
  else if i = 2 then some .received
  else if i = 16 then some .repeatPass
  else none

/-- The slot result decided from the slot record (R100). The owner of slot k is station k + 1, whose
letter is the letter at place k of the alphabet. -/
def decideSlot (r : Rounds) : SlotKind :=
  if r.breakSeen then .empty
  else
    match r.chars with
    | [] => if r.carrier then .garbled else .empty
    | [.letter a, .letter b] =>
      if a.val = r.slot then
        match kindLetter b.val with
        | some k => .reply k
        | none => .garbled
      else .garbled
    | _ => .garbled

end Sys2Proof.Machine
end

