-- ==== Sys2Proof/Machine/DriveOps.lean ====
section
/-! DEFINITION. The Drum Drive's own operations (chapter 2): motor and lamp, wants, the spin-up budget,
slews, idle hold, and the carriage. What a fault does to the pass stands in DriveEvents. -/

namespace Sys2Proof.Machine

/-! ### Motor and lamp off -/

/-- The drive's fields as the motor stops: COASTING unless PARKED; target speed, locked speed, approach
kind and counts cleared, lock timer stopped (R32, R38, R39, R50). A revolution that opened LOCKED raises the
rest of its positions (R31, log entry 19). -/
def stopMotor (d : Drive) : Drive :=
  { d with
    drum := if d.drum = .parked then .parked else .coasting
    target := none
    lockedAt := none
    approach := none
    lockCount := 0
    lossCount := 0
    lockTimer := none
    marked := false }

/-- The motor is switched off; `*DRUM COASTING` is posted where the drum state changes (R26). -/
def motorOff (s : State) : State :=
  let t := s.onDrive stopMotor
  if s.drive.drum.motorOn then post (.drum .coasting none) t else t

/-- A lamp-off makes a FRESH calibration STALE (R85). -/
def staleLamp (s : State) : State :=
  if s.cal.state = .fresh then post .calStaleLamp (s.onCal fun c => { c with state := .stale }) else s

/-- A lamp-off (R47): OFF from WARMING, READY or FAULT, handed to the Calibration Unit. -/
def lampOff (s : State) : State :=
  if s.drive.lamp = .off then s
  else staleLamp (s.onDrive fun d => { d with lamp := .off, warmTimer := none })

/-- The end of idle hold: lamp off, and motor off if it is on (R38). An IDLE of 0 has it stand where the last want
is withdrawn, at the cover-open event too: the model's choice there (log entry 49). -/
def idleExpire (s : State) : State :=
  motorOff (lampOff (s.onDrive fun d => { d with idleTimer := none }))

/-! ### Wants (R34, R35) -/

/-- The wanted speed: the queue's want, otherwise the Calibration Unit's (R34). -/
def Drive.wanted (d : Drive) : Option Speed :=
  match d.queueWant with
  | some w => some w
  | none => d.calWant

/-- The lamp-on of R45: OFF, cover closed, a want held. -/
def lampOn (s : State) : State :=
  if s.drive.lamp = .off ∧ s.coverOpen = false ∧ s.drive.wanted.isSome then
    s.onDrive fun d => { d with lamp := .warming, warmTimer := some (s.now + Config.warmUpTime) }
  else s

/-- The moment a spin-up starts: the present one, or the next millisecond where the newest entry is not
earlier, so that each entry is a distinct moment (R36, log entry 3). -/
def spinUpMoment (now : Moment) (starts : List Moment) : Moment :=
  match starts.getLast? with
  | none => now
  | some t => max now (t + 1)

/-- The entries of the spin-up list younger than 15 minutes (R36). -/
def youngStarts (now : Moment) (starts : List Moment) : List Moment :=
  starts.filter fun t => decide (now < t + Config.spinUpAge)

/-- Whole seconds, rounded up, until the oldest entry reaches 15 minutes of age (R37). -/
def deferSeconds (now : Moment) (starts : List Moment) : Nat :=
  match starts with
  | [] => 0
  | t :: _ => (t + Config.spinUpAge - now + 999) / 1000

/-- A spin-up at a target speed: started and entered in the list, or deferred where six starts fall in
the last 15 minutes (R36, R37). -/
def spinUp (w : Speed) (s : State) : State :=
  let young := youngStarts s.now s.drive.spinUps
  if young.length < Config.spinUpCap then
    let t := spinUpMoment s.now young
    post (.drum .spinningUp (some w)) <|
      (advanceTo t s).onDrive fun d =>
        { d with
          spinUps := young ++ [t]
          drum := .spinningUp
          target := some w
          lockedAt := none
          approach := some .spin
          lockCount := 0
          lossCount := 0
          lockTimer := some (t + Config.lockTime)
          marked := false }
  else
    post (.drumDefer (deferSeconds s.now young)) <|
      s.onDrive fun d => { d with spinUps := young, pendingStart := true }

/-- A slew to a target speed (R35). It is no spin-up; the revolution it begins in raises the rest of its
positions (R31, log entry 19). -/
def slew (w : Speed) (s : State) : State :=
  post (.drum .slewing (some w)) <|
    s.onDrive fun d =>
      { d with
        drum := .slewing
        target := some w
        lockedAt := none
        approach := some .slew
        lockCount := 0
        lossCount := 0
        lockTimer := some (s.now + Config.lockTime)
        marked := false }

/-- What a wanted speed does to the drum (R35), cover closed and fault hold clear; while a calibration
run is in progress the drum is left at the run's speed (R34). -/
def serveDrum (s : State) : State :=
  if s.coverOpen ∨ s.drive.faultHold ∨ s.cal.state = .running then s
  else
    match s.drive.wanted with
    | none => s
    | some w =>
      match s.drive.drum with
      | .parked => if s.drive.pendingStart then s else spinUp w s
      | .coasting => if s.drive.pendingStart then s else spinUp w s
      | .spinningUp => s
      | .slewing => s
      | .locking => s
      | .locked => if s.drive.lockedAt = some w then s else slew w s

/-- The drive serves the wants it holds: the lamp (R45), then the drum (R35). -/
def serve (s : State) : State := serveDrum (lampOn s)

/-- The last want has been withdrawn: a pending start is dropped (R37) and idle hold begins with the
IDLE setting as it stands; at 0 it ends at the same event (R38). -/
def beginIdle (s : State) : State :=
  let t := s.onDrive fun d =>
    { d with pendingStart := false, idleTimer := some (s.now + 1000 * s.settings.idle) }
  if s.settings.idle = 0 then idleExpire t else t

/-- After a want was withdrawn: idle hold where it was the last, otherwise the remaining want is
served (R34, R38). -/
def wantWithdrawn (s : State) : State :=
  if s.drive.wanted.isNone then beginIdle s else serve s

/-- The queue raises its wants at a speed (R17). -/
def raiseQueueWant (w : Speed) (s : State) : State :=
  serve (s.onDrive fun d => { d with queueWant := some w, idleTimer := none })

/-- The queue withdraws its wants, if it holds any; the fault hold clears (R17, R32). -/
def withdrawQueueWant (s : State) : State :=
  if s.drive.queueWant.isNone then s
  else wantWithdrawn (s.onDrive fun d => { d with queueWant := none, faultHold := false })

/-- The Calibration Unit raises its want at a speed (R76). -/
def raiseCalWant (w : Speed) (s : State) : State :=
  serve (s.onDrive fun d => { d with calWant := some w, idleTimer := none })

/-- The Calibration Unit withdraws its want, if it holds one (R76). -/
def withdrawCalWant (s : State) : State :=
  if s.drive.calWant.isNone then s
  else wantWithdrawn (s.onDrive fun d => { d with calWant := none })

/-! ### The carriage (section 2.8) -/

/-- A return toward home (R41): nothing at HOME or while RETURNING. -/
def orderReturn (s : State) : State :=
  match s.drive.carriage with
  | .home => s
  | .returning => s
  | .unhomed | .stepping =>
    s.onDrive fun d =>
      { d with
        carriage := .returning
        position := none
        returnTimer := some (s.now + Config.returnTime) }

/-- The start of a pass as handed to the drive: step-fault count 0, and a return ordered (R40, R113). -/
def passToDrive (s : State) : State :=
  orderReturn (s.onDrive fun d => { d with stepFaults := 0 })

/-- One step outward at a pitch (R42). -/
def orderStep (p : Pitch) (s : State) : State :=
  s.onDrive fun d =>
    { d with
      carriage := if d.carriage = .home then .stepping else d.carriage
      position := d.position.map (· + 1)
      stepPitch := some p
      stepWaiting := true }

/-- The carriage at the cover-open event and at `RESET` (R43): moving, it stops and is UNHOMED. -/
def haltCarriage (d : Drive) : Drive :=
  if d.carriage = .returning ∨ d.stepWaiting then
    { d with carriage := .unhomed, position := none, stepWaiting := false, returnTimer := none }
  else d

end Sys2Proof.Machine
end

