-- ==== Sys2Proof/Machine/CalibrationOps.lean ====
section
/-! DEFINITION. The Calibration Unit's operations (chapter 4): the request and its want, the run and
its judgement, pass, fail and abort, and drift. -/

namespace Sys2Proof.Machine

/-- The speed of a calibration want, from the drum state (R76). -/
def calSpeed (d : Drive) : Speed :=
  match d.drum with
  | .locked => d.lockedAt.getD .s60
  | .spinningUp => d.target.getD .s60
  | .slewing => d.target.getD .s60
  | .locking => d.target.getD .s60
  | .parked => .s60
  | .coasting => .s60

/-- A calibration request is raised with its want; one already held absorbs it (R76). -/
def askCalibration (s : State) : State :=
  if s.cal.request then s
  else raiseCalWant (calSpeed s.drive) (s.onCal fun c => { c with request := true })

/-- The request ends and its want is withdrawn (R76). -/
def endRequest (s : State) : State :=
  withdrawCalWant (s.onCal fun c => { c with request := false, run := none })

/-- A run in progress aborts (R82): G and the state as saved, FRESH becoming STALE with the lamp
switched off; `*CAL ABORT`; the RELEASED job's calibration-tried flag cleared; the request ended. -/
def abortRun (s : State) : State :=
  match s.cal.run with
  | none => s
  | some r =>
    let back := if r.savedState = .fresh ∧ s.drive.lamp = .off then CalState.stale else r.savedState
    endRequest <|
      (post .calAbort <|
        s.onCal fun c => { c with gain := r.savedStep, state := back, run := none }).onQueue fun q =>
          { q with jobs := q.jobs.map fun j =>
              if j.state = .released then { j with calTried := false } else j }

/-- A drive fault as the Calibration Unit takes it (R32): a run aborts (R82); a request whose run has
not begun ends without report (R76). -/
def calDriveFault (s : State) : State :=
  match s.cal.run with
  | some _ => abortRun s
  | none => if s.cal.request then endRequest s else s

/-- A run begins (R77). -/
def beginRun (s : State) : State :=
  post .calRunning <|
    s.onCal fun c =>
      { c with
        state := .running
        gain := 0
        run := some
          { savedStep := c.gain
            savedState := c.state
            working := 0
            counted := 1
            spoiled := 0
            whiteSum := 0
            blackSum := 0
            means := none } }

/-- The weight of the trial step of a counted revolution 2 to 7: 32, 16, 8, 4, 2, 1 (R79). -/
def trialWeight (counted : Nat) : Nat := 2 ^ (7 - counted)

/-- The gain applied during a counted revolution (R79). -/
def appliedGain (working counted : Nat) : Nat :=
  if 2 ≤ counted ∧ counted ≤ 7 then working + trialWeight counted else working

/-- The revolution that opens in a run: no sums and no means yet, its gain applied (R78, R79). -/
def openRevolution (r : CalRun) (s : State) : State :=
  s.onCal fun c =>
    { c with
      gain := appliedGain r.working r.counted
      run := some { r with whiteSum := 0, blackSum := 0, means := none } }

/-- The checks of R80 on the means of the eighth counted revolution. -/
def calChecks (w b : Nat) : Bool :=
  decide (3400 ≤ w) && decide (w ≤ 3800) && decide (b ≤ 900) && decide (b + 2000 ≤ w)

/-- A run passes (R80). -/
def passRun (r : CalRun) (w b : Nat) (s : State) : State :=
  endRequest <| post (.calOk r.working w b) <|
    s.onCal fun c =>
      { c with
        state := .fresh
        gain := r.working
        w0 := w
        b0 := b
        tcal := some s.drive.temp
        run := none }

/-- A run fails (R81). -/
def failRun (r : CalRun) (s : State) : State :=
  endRequest <| post .calFail <|
    s.onCal fun c => { c with state := .failed, gain := r.savedStep, run := none }

/-- A good revolution completes the step of its counted-revolution number (R79); without means, which
does not arise with all positions read, only the settling revolution is completed (log entry 8). -/
def completeStep (r : CalRun) (s : State) : State :=
  if r.counted ≤ 1 then openRevolution { r with counted := 2 } s
  else
    match r.means with
    | none => openRevolution r s
    | some (w, b) =>
      if r.counted ≤ 7 then
        let kept := if w ≤ 3600 then r.working + trialWeight r.counted else r.working
        openRevolution { r with working := kept, counted := r.counted + 1 } s
      else if calChecks w b then passRun r w b s
      else failRun r s

/-- A spoiled revolution completes nothing; the eighth aborts the run (R78, R82). -/
def spoiledStep (r : CalRun) (s : State) : State :=
  if 8 ≤ r.spoiled + 1 then abortRun s
  else openRevolution { r with spoiled := r.spoiled + 1 } s

/-- The conditions under which a run begins at an index mark, given whether the event carries the drum
state LOCKED (R77). A detached pass still in progress does not hold it back: the model's choice (log entry 56). -/
def runMayBegin (locked : Bool) (s : State) : Bool :=
  s.cal.request && locked && s.drive.lamp == .ready && !s.anyActive && s.cal.state != .running

/-- An index mark at the Calibration Unit: a run in progress judges the revolution by the drive's
verdict (R78), otherwise a run may begin (R77). -/
def calIndex (locked good : Bool) (s : State) : State :=
  match s.cal.run with
  | some r => if good then completeStep r s else spoiledStep r s
  | none => if runMayBegin locked s then beginRun s else s

/-- A sample position at the Calibration Unit (R78). -/
def calSample (p x : Nat) (s : State) : State :=
  s.onCal fun c =>
    { c with run := c.run.map fun r =>
        if p < 16 then { r with whiteSum := r.whiteSum + x }
        else if p < 32 then { r with blackSum := r.blackSum + x }
        else if p = 32 then { r with means := some (r.whiteSum / 16, r.blackSum / 16) }
        else r }

/-- A temperature reading at the Calibration Unit (R86) and, on drift in a pass, at the Scan Unit (R71). -/
def calTemperature (t : Nat) (s : State) : State :=
  match s.cal.state, s.cal.tcal with
  | .fresh, some c =>
    if s.settings.calDrift ≤ (t - c) + (c - t) then
      let u := post .calStaleDrift (s.onCal fun c => { c with state := .stale })
      match s.activeJob with
      | none => u
      | some j => post (.lampDrift j.number t) (u.onScanPass fun x => { x with drift := true })
    else s
  | _, _ => s

end Sys2Proof.Machine
end

