-- ==== Sys2Proof/Machine/Operands.lean ====
section
/-! DEFINITION. The forms in which a request gives its values: decimal numbers, lists of them,
key=value words, names, times of day, and the job number that most queue requests begin with. -/

namespace Sys2Proof.Machine

/-- A decimal digit. -/
def isDigit (c : Char) : Bool := 48 ≤ c.toNat && c.toNat ≤ 57

/-- A character of a slug, a station name or a bureau name: A to Z, 0 to 9, hyphen. -/
def isNameChar (c : Char) : Bool := isDigit c || (65 ≤ c.toNat && c.toNat ≤ 90) || c == '-'

/-- The value of a run of decimal digits; leading zeros count for nothing (R170). -/
def digitsValue (w : Text) : Nat := w.foldl (fun n c => 10 * n + (c.toNat - 48)) 0

/-- A decimal number without sign or separator (R170). -/
def number? (w : Text) : Option Nat :=
  if !w.isEmpty && w.all isDigit then some (digitsValue w) else none

/-- Decimal numbers joined by single commas, without spaces. -/
def numbers? (w : Text) : Option (List Nat) := allSome ((splitOn ',' w).map number?)

/-- A name of 1 to `most` characters of its alphabet. -/
def name? (most : Nat) (w : Text) : Option Text :=
  if !w.isEmpty && decide (w.length ≤ most) && w.all isNameChar then some w else none

/-- A time of day as hh:mm:ss, two digits each: hours, minutes, seconds. -/
def time? (w : Text) : Option (Nat × Nat × Nat) :=
  match w with
  | [a, b, c, d, e, f, g, h] =>
    if [a, b, d, e, g, h].all isDigit && c == ':' && f == ':' then
      some (digitsValue [a, b], digitsValue [d, e], digitsValue [g, h])
    else none
  | _ => none

/-- The time lies in 00:00:00 to 23:59:59. -/
def timeOk (t : Nat × Nat × Nat) : Bool :=
  decide (t.1 ≤ 23) && decide (t.2.1 ≤ 59) && decide (t.2.2 ≤ 59)

/-- The second of the day of a time. -/
def secOfDay (t : Nat × Nat × Nat) : Nat := 3600 * t.1 + 60 * t.2.1 + t.2.2

/-- A word of the form key=value: its key before the first equals sign and its value after it. That a value may hold
a further equals sign is the model's choice (log entry 54); no value of a writable key may. -/
def keyValue? (w : Text) : Option (Text × Text) :=
  match w.dropWhile (· != '=') with
  | _ :: v => some (w.takeWhile (· != '='), v)
  | [] => none

/-- The value after a fixed key and its equals sign. -/
def valueOf? (key : Text) (w : Text) : Option Text :=
  match keyValue? w with
  | some (k, v) => if k = key then some v else none
  | none => none

/-- The first value given for a key. -/
def lookupKey (key : Text) (kvs : List (Text × Text)) : Option Text :=
  (kvs.find? fun p => p.1 == key).map (·.2)

/-- The one number a request takes (check 1 of R9), in 1 to 999 (check 2). -/
def jobNumber (args : List Text) : Except Code Nat :=
  match args with
  | [w] =>
    match number? w with
    | none => .error .form
    | some n => if 1 ≤ n ∧ n ≤ 999 then .ok n else .error .range
  | _ => .error .form

/-- Checks 1 to 3 of R9: one decimal number, in 1 to 999, of a job in the queue. -/
def jobArg (args : List Text) (s : State) : Except Code Job :=
  match jobNumber args with
  | .error c => .error c
  | .ok n =>
    match s.findJob n with
    | none => .error .unknown
    | some j => .ok j

/-- A station number: a decimal number (check 1 of R89) in 1 to 16 (check 2). -/
def stationNumber (w : Text) : Except Code Nat :=
  match number? w with
  | none => .error .form
  | some n => if 1 ≤ n ∧ n ≤ 16 then .ok n else .error .range

end Sys2Proof.Machine
end

