-- ==== Sys2Proof/Machine/TextForms.lean ====
section
/-! DEFINITION. The text of what the part sends and prints: reply lines (chapters 1 to 10, each owner's
forms), report lines (section 9.4) and the lines of a slip (section 8.5). -/

namespace Sys2Proof.Machine

/-! ### Numbers and columns -/

/-- A number in decimal digits. -/
def digits (n : Nat) : Text := Nat.toDigits 10 n

/-- A number in decimal digits with leading zeros to a width. -/
def digitsW (w n : Nat) : Text := List.replicate (w - (digits n).length) '0' ++ digits n

/-- A figure of a slip in its columns; one too large for them is a free value (log entry 30). -/
def figure (w n : Nat) : Text := if n < 10 ^ w then digitsW w n else Config.wideFigure w n

/-- A text padded on the right with spaces to a width. -/
def padRight (w : Nat) (t : Text) : Text := t ++ List.replicate (w - t.length) ' '

/-- Blank columns. -/
def blanks (n : Nat) : Text := List.replicate n ' '

/-- Words put on one line with single spaces. -/
def line (ws : List Text) : Text := joinWith ' ' ws

/-- Numbers joined by commas. -/
def commas (ns : List Nat) : Text := joinWith ',' (ns.map digits)

/-- A time of day hh:mm:ss. -/
def timeText (sec : Nat) : Text :=
  digitsW 2 (sec / 3600) ++ ':' :: digitsW 2 (sec / 60 % 60) ++ ':' :: digitsW 2 (sec % 60)

/-- A clock or stamp as dddd/hh:mm:ss, or dashes for NOT SET (R158, R175). -/
def stampText : Option DayTime → Text
  | none => "----/--:--:--".toList
  | some c => digitsW 4 c.day ++ '/' :: timeText c.sec

/-! ### Names -/

def Priority.text : Priority → Text
  | .routine => "ROUTINE".toList
  | .urgent => "URGENT".toList
  | .flash => "FLASH".toList

def JobState.text : JobState → Text
  | .queued => "QUEUED".toList
  | .mounted => "MOUNTED".toList
  | .released => "RELEASED".toList
  | .active => "ACTIVE".toList
  | .finished => "FINISHED".toList

def ReleaseCause.text : ReleaseCause → Text
  | .start => "START".toList
  | .key => "KEY".toList
  | .time => "TIME".toList
  | .pending => "PENDING".toList
  | .repeatPass => "REPEAT".toList

def Cause.text : Cause → Text
  | .drum => "DRUM".toList
  | .budget => "BUDGET".toList
  | .lamp => "LAMP".toList
  | .cal => "CAL".toList
  | .circuit => "CIRCUIT".toList
  | .log => "LOG".toList

def DrumState.text : DrumState → Text
  | .parked => "PARKED".toList
  | .spinningUp => "SPINNING_UP".toList
  | .slewing => "SLEWING".toList
  | .locking => "LOCKING".toList
  | .locked => "LOCKED".toList
  | .coasting => "COASTING".toList

def CarriageState.text : CarriageState → Text
  | .unhomed => "UNHOMED".toList
  | .home => "HOME".toList
  | .stepping => "STEPPING".toList
  | .returning => "RETURNING".toList

def LampState.text : LampState → Text
  | .off => "OFF".toList
  | .warming => "WARMING".toList
  | .ready => "READY".toList
  | .fault => "FAULT".toList

def DrumFault.text : DrumFault → Text
  | .timeout => "TIMEOUT".toList
  | .lock => "LOCK".toList
  | .carriage => "CARRIAGE".toList

def CalState.text : CalState → Text
  | .none => "NONE".toList
  | .running => "RUNNING".toList
  | .fresh => "FRESH".toList
  | .stale => "STALE".toList
  | .failed => "FAILED".toList

def CircuitState.text : CircuitState → Text
  | .free => "FREE".toList
  | .broken => "BROKEN".toList
  | .callup => "CALLUP".toList
  | .answer => "ANSWER".toList
  | .phasing => "PHASING".toList
  | .picture => "PICTURE".toList
  | .ending => "ENDING".toList
  | .gathering => "GATHERING".toList
  | .paused => "PAUSED".toList
  | .killing => "KILLING".toList

def ResumePoint.text : ResumePoint → Text
  | .rephase => "REPHASE".toList
  | .phasing => "PHASING".toList
  | .callup => "CALLUP".toList
  | .ending => "ENDING".toList
  | .gathering => "GATHERING".toList

def DropReason.text : DropReason → Text
  | .stop => "STOP".toList
  | .silent => "SILENT".toList
  | .masked => "MASKED".toList

/-- A party state as `RECEIPT` writes it (R158). -/
def PartyState.text : PartyState → Text
  | .invited => "INVITED".toList
  | .joined => "JOINED".toList
  | .absent => "ABSENT".toList
  | .masked => "MASKED".toList
  | .dropped w _ => "DROPPED-".toList ++ w.text
  | .received => "RECEIVED".toList
  | .repeatAsked => "REPEAT_ASKED".toList
  | .noReceipt => "NO_RECEIPT".toList

/-- The result code of a station line (section 8.5). A closed pass holds no INVITED or JOINED station
(R131); those two have no code of the manual's. -/
def PartyState.code : PartyState → Text
  | .invited => "----".toList
  | .joined => "----".toList
  | .absent => "ABST".toList
  | .masked => "MASK".toList
  | .dropped .stop _ => "DSTP".toList
  | .dropped .silent _ => "DSIL".toList
  | .dropped .masked _ => "DMSK".toList
  | .received => "RCVD".toList
  | .repeatAsked => "RPTA".toList
  | .noReceipt => "NORC".toList

def PassOutcome.text : PassOutcome → Text
  | .complete => "COMPLETE".toList
  | .partialReceipt => "PARTIAL".toList
  | .killed => "KILLED".toList
  | .failed => "FAILED".toList
  | .interrupted => "INTERRUPTED".toList

def Reason.text : Reason → Text
  | .noAnswer => "NO_ANSWER".toList
  | .noParty => "NO_PARTY".toList
  | .drive => "DRIVE".toList
  | .lamp => "LAMP".toList
  | .reference => "REFERENCE".toList
  | .fills => "FILLS".toList
  | .carriage => "CARRIAGE".toList
  | .cover => "COVER".toList
  | .holdTimeout => "HOLD_TIMEOUT".toList
  | .breakTimeout => "BREAK_TIMEOUT".toList
  | .reset => "RESET".toList
  | .power => "POWER".toList

/-- The reason code of an outcome line (section 8.5). -/
def Reason.code : Reason → Text
  | .noAnswer => "NANS".toList
  | .noParty => "NPTY".toList
  | .drive => "DRIV".toList
  | .lamp => "LAMP".toList
  | .reference => "REFS".toList
  | .fills => "FILL".toList
  | .carriage => "CARR".toList
  | .cover => "COVR".toList
  | .holdTimeout => "HOLD".toList
  | .breakTimeout => "BRKT".toList
  | .reset => "RSET".toList
  | .power => "POWR".toList

def SlipState.text : SlipState → Text
  | .pending => "PENDING".toList
  | .printing => "PRINTING".toList
  | .printed => "PRINTED".toList
  | .skipped => "SKIPPED".toList

def PrinterState.text : PrinterState → Text
  | .ready => "READY".toList
  | .printing => "PRINTING".toList
  | .paperOut => "PAPER_OUT".toList

def Code.text : Code → Text
  | .form => "SYNTAX".toList
  | .range => "RANGE".toList
  | .state => "STATE".toList
  | .busy => "BUSY".toList
  | .full => "FULL".toList
  | .unknown => "UNKNOWN".toList
  | .duplicate => "DUPLICATE".toList
  | .long => "LONG".toList
  | .late => "LATE".toList

def Key.text : Key → Text
  | .white => "WHITE".toList
  | .black => "BLACK".toList
  | .phase => "PHASE".toList
  | .rephase => "REPHASE".toList
  | .answer => "ANSWER".toList
  | .answerMax => "ANSWERMAX".toList
  | .slots => "SLOTS".toList
  | .silence => "SILENCE".toList
  | .gather => "GATHER".toList
  | .idle => "IDLE".toList
  | .calDrift => "CALDRIFT".toList
  | .holdMax => "HOLDMAX".toList
  | .breakMax => "BREAKMAX".toList
  | .copies => "COPIES".toList
  | .progress => "PROGRESS".toList
  | .bureau => "BUREAU".toList
  | .temp => "TEMP".toList
  | .gain => "GAIN".toList
  | .version => "VERSION".toList

def LogMark.text : LogMark → Text
  | .openRecord => "OPEN".toList
  | .held => "HELD".toList
  | .free => "FREE".toList

def batteryText : Battery → Text
  | .good => "GOOD".toList
  | .low => "LOW".toList
  | .failed => "FAILED".toList

/-! ### Replies -/

def KeyValue.text : KeyValue → Text
  | .num n => digits n
  | .word w => w

/-- key=value words. -/
def keyValueWords (kvs : List (Key × KeyValue)) : List Text :=
  kvs.map fun p => p.1.text ++ '=' :: p.2.text

/-- A list of station numbers, or NONE (R95). -/
def stationListText (ns : List Nat) : Text := if ns.isEmpty then "NONE".toList else commas ns

/-- An absent field is written as a hyphen (R158). -/
def orHyphen (t : Option Text) : Text := t.getD "-".toList

/-- The drop line of a party state, where it has one. -/
def PartyState.dropLine : PartyState → Option Nat
  | .dropped _ k => some k
  | .invited => none
  | .joined => none
  | .absent => none
  | .masked => none
  | .received => none
  | .repeatAsked => none
  | .noReceipt => none

/-- The words of a station result in `RECEIPT` (R158). -/
def stationResultWords (r : StationResult) : List Text :=
  [digits r.station, orHyphen r.name, orHyphen (r.final.map PartyState.text),
   orHyphen ((r.final.bind PartyState.dropLine).map digits), orHyphen (r.noise.map digits)]

/-- The words of a pass in `RECEIPT` (R158). -/
def passWords (p : PassEntry) : List Text :=
  match p.close with
  | none => ["P".toList, digits p.number, stampText p.start, "RUNNING".toList]
  | some c =>
    ["P".toList, digits p.number, stampText p.start, stampText c.stamp, c.outcome.text,
     orHyphen (c.reason.map Reason.text), orHyphen (c.secondary.map Reason.text),
     orHyphen (c.counts.map fun k => digits k.sent), orHyphen (c.counts.map fun k => digits k.fills),
     orHyphen (c.counts.map fun k => digits k.heldRefs),
     orHyphen (c.counts.map fun k => digits k.spoiledLines),
     orHyphen (c.counts.bind fun k => if k.drift then some "D".toList else none),
     c.slip.text, digits c.results.length] ++ c.results.flatMap stationResultWords

/-- The reasons of a pause: HOLD, BREAK, or both with a joint between them. -/
def pauseText (joint : Text) (hold brk : Bool) : Text :=
  if hold && brk then "HOLD".toList ++ joint ++ "BREAK".toList
  else if hold then "HOLD".toList
  else if brk then "BREAK".toList
  else []

/-- The DRUM= word: a speed after a slash in the approach states and in LOCKED (R175). -/
def drumWord (d : DrumState) (sp : Option Speed) : Text :=
  d.text ++
    (match sp with
      | none => []
      | some v => '/' :: digits v.rpm)

/-- The CIRC= word (R175). -/
def circWord (w : StatusWords) : Text :=
  w.circ.text ++ (if w.hold || w.brk then '/' :: pauseText "+".toList w.hold w.brk else [])

/-- The thirteen words of `STATUS` (R175). -/
def statusWordList (w : StatusWords) : List Text :=
  ["DRUM=".toList ++ drumWord w.drum w.speed,
   "LAMP=".toList ++ w.lamp.text,
   "TEMP=".toList ++ digits w.temp,
   "CAL=".toList ++ w.cal.text,
   "CARR=".toList ++ w.carriage.text,
   "CIRC=".toList ++ circWord w,
   "JOB=".toList ++ (w.job.map digits).getD "NONE".toList,
   "PRN=".toList ++ w.printer.text,
   "BATT=".toList ++ batteryText w.battery,
   "CLOCK=".toList ++ stampText w.clock,
   "REP=".toList ++ digits w.waiting,
   "OVF=".toList ++ digits (if w.overflow then 1 else 0),
   "GARBLE=".toList ++ digits w.garble]

/-- The words of an accepted reply after OK. -/
def replyWords : Reply → List Text
  | .no c => [c.text]
  | .queue n => ["QUEUE".toList, digits n]
  | .list js =>
    "LIST".toList :: digits js.length ::
      js.flatMap fun j => [digits j.1, j.2.1, j.2.2.1.text, j.2.2.2.text]
  | .mount n r => ["MOUNT".toList, digits n, if r then "RELEASED".toList else "MOUNTED".toList]
  | .start n r => ["START".toList, digits n, if r then "RELEASED".toList else "PENDING".toList]
  | .hold n p => ["HOLD".toList, digits n, if p then "PAUSED".toList else "PENDING".toList]
  | .go n => ["GO".toList, digits n]
  | .kill n r => ["KILL".toList, digits n, if r then "REMOVED".toList else "KILLED".toList]
  | .repeatPass n p => ["REPEAT".toList, digits n, digits p]
  | .stationDefined s => ["STATION".toList, digits s, "DEFINED".toList]
  | .stationRenamed s => ["STATION".toList, digits s, "RENAMED".toList]
  | .stationOff s => ["STATION".toList, digits s, "OFF".toList]
  | .stationRead s name m =>
    ["STATION".toList, digits s, name.getD "UNDEFINED".toList,
     if m then "MASKED".toList else "UNMASKED".toList]
  | .stationList es =>
    "STATION".toList :: digits es.length :: es.flatMap fun e => [digits e.1, e.2]
  | .maskChange on s pend =>
    ["MASK".toList, (if on then '+' else '-') :: digits s] ++
      (if pend then ["PENDING".toList] else [])
  | .maskRead cur pend =>
    ["MASK".toList, "CURRENT=".toList ++ stationListText cur, "PENDING=".toList ++ stationListText pend]
  | .setKeys kvs => "SET".toList :: keyValueWords kvs
  | .getKeys kvs => "GET".toList :: keyValueWords kvs
  | .curveLoad k => ["CURVE".toList, digits k]
  | .curveRead k pts => ["CURVE".toList, digits k, commas pts]
  | .cal => ["CAL".toList]
  | .calDefault => ["CAL".toList, "DEFAULT".toList]
  | .clock none => ["CLOCK".toList, "NOT".toList, "SET".toList]
  | .clock (some c) => ["CLOCK".toList, stampText (some c)]
  | .receipt r =>
    ["RECEIPT".toList, digits r.job, r.slug, r.priority.text, digits r.pitch.lpi, digits r.speed.rpm,
     digits r.lines, if r.isOpen then "OPEN".toList else "CLOSED".toList, digits r.passes.length] ++
      r.passes.flatMap passWords
  | .receiptList es =>
    "RECEIPT".toList :: digits es.length :: es.flatMap fun e => [digits e.1, e.2.text]
  | .slip n p c => ["SLIP".toList, digits n, digits p, digits c]
  | .slipList es =>
    "SLIP".toList :: digits es.length :: es.flatMap fun e => [digits e.1, digits e.2.1, digits e.2.2]
  | .status w => "STATUS".toList :: statusWordList w
  | .reportsOn => ["REPORTS".toList, "ON".toList]
  | .reportsOff => ["REPORTS".toList, "OFF".toList]
  | .reports on k ovf =>
    ["REPORTS".toList, if on then "ON".toList else "OFF".toList, digits k] ++
      (if ovf then ["OVERFLOW".toList] else [])
  | .clear was => "CLEAR".toList :: (if was then ["OVERFLOW".toList] else [])
  | .reset => ["RESET".toList]

/-- The first word of a reply: NO for a refusal, OK otherwise (R170). -/
def replyHead : Reply → Text
  | .no _ => "NO".toList
  | _ => "OK".toList

/-- A reply line as it is sent, without CR and LF (R170). -/
def replyText (r : Reply) : Text := line (replyHead r :: replyWords r)

/-! ### Reports (section 9.4) -/

/-- The words of a report line. -/
def reportWords : Report → List Text
  | .power kept => ["*POWER".toList, if kept then "RETAINED".toList else "LOST".toList]
  | .load n => ["*LOAD".toList, digits n]
  | .loadUnbound => ["*LOAD".toList, "UNBOUND".toList]
  | .loadOpen => ["*LOAD".toList, "OPEN".toList]
  | .release n w => ["*RELEASE".toList, digits n, w.text]
  | .wait n cs => "*WAIT".toList :: digits n :: cs.map Cause.text
  | .start n p => ["*START".toList, digits n, digits p]
  | .line n k h d =>
    ["*LINE".toList, digits n, digits k, digits h] ++ (if d then ["DRIFT".toList] else [])
  | .pause n h b => ["*PAUSE".toList, digits n, pauseText " ".toList h b]
  | .resume n pt => ["*RESUME".toList, digits n, pt.text]
  | .passEnd n p o r =>
    ["*END".toList, digits n, digits p, o.text] ++
      (match o, r with
        | .failed, some x => [x.text]
        | _, _ => [])
  | .stationJoined n s => ["*STATION".toList, digits n, digits s, "JOINED".toList]
  | .stationDropped n s w k =>
    ["*STATION".toList, digits n, digits s, "DROPPED".toList, w.text, digits k]
  | .late s => ["*LATE".toList, digits s]
  | .drum d sp =>
    ["*DRUM".toList, d.text] ++
      (match sp with
        | none => []
        | some v => [digits v.rpm])
  | .drumDefer n => ["*DRUM".toList, "DEFER".toList, digits n]
  | .drumFault k => ["*DRUM".toList, "FAULT".toList, k.text]
  | .lampReady => ["*LAMP".toList, "READY".toList]
  | .lampFault => ["*LAMP".toList, "FAULT".toList]
  | .lampDrift n t => ["*LAMP".toList, "DRIFT".toList, digits n, digits t]
  | .calRunning => ["*CAL".toList, "RUNNING".toList]
  | .calOk g w b => ["*CAL".toList, "OK".toList, digits g, digits w, digits b]
  | .calFail => ["*CAL".toList, "FAIL".toList]
  | .calAbort => ["*CAL".toList, "ABORT".toList]
  | .calStaleLamp => ["*CAL".toList, "STALE".toList, "LAMP".toList]
  | .calStaleDrift => ["*CAL".toList, "STALE".toList, "DRIFT".toList]
  | .breakOn => ["*BREAK".toList, "ON".toList]
  | .breakOff => ["*BREAK".toList, "OFF".toList]
  | .paperOut => ["*PAPER".toList, "OUT".toList]
  | .paperIn => ["*PAPER".toList, "IN".toList]
  | .slip n p => ["*SLIP".toList, digits n, digits p]
  | .batteryLow => ["*BATTERY".toList, "LOW".toList]
  | .batteryFailed => ["*BATTERY".toList, "FAILED".toList]
  | .lnkDiscard => ["*LNK".toList, "DISCARD".toList]
  | .lnkOverrun => ["*LNK".toList, "OVERRUN".toList]

/-- A report line as it is sent, without CR and LF. -/
def reportText (r : Report) : Text := line (reportWords r)

/-- The characters of a line in transmission, CR and LF included (R171). -/
def outLineText : OutLine → Text
  | .reply r => replyText r ++ ['\r', '\n']
  | .report r => reportText r ++ ['\r', '\n']

/-! ### Slips (section 8.5) -/

/-- Lines 4 and 5: a stamp in its columns. -/
def slipStamp (head : Text) (stamp : Option DayTime) : Text :=
  padRight 24 <| padRight 6 head ++
    (match stamp with
      | none => "---- --:--:--".toList
      | some c => digitsW 4 c.day ++ ' ' :: timeText c.sec)

/-- A station line. -/
def slipStation (r : StationResult) : Text :=
  figure 2 r.station ++ blanks 1 ++ padRight 6 (r.name.getD "------".toList) ++ blanks 1 ++
    (match r.final with
      | none => "----".toList
      | some st => st.code) ++ blanks 1 ++
    (match r.final.bind PartyState.dropLine with
      | none => blanks 4
      | some k => figure 4 k) ++ blanks 1 ++
    (match r.noise with
      | none => Config.interruptedNoise
      | some k => figure 4 (min k 9999))

/-- The outcome line. -/
def slipOutcome (c : PassClose) : Text :=
  padRight 24 <| c.outcome.text ++
    (match c.reason with
      | none => []
      | some r => ' ' :: r.code) ++
    (match c.secondary with
      | none => []
      | some r => ' ' :: '/' :: r.code)

/-- One figure of the totals line, or dashes where the pass holds no counts. -/
def slipTotal (k : Option Nat) : Text :=
  match k with
  | none => "----".toList
  | some n => figure 4 n

/-- The totals line. -/
def slipTotals (c : PassClose) : Text :=
  'L' :: slipTotal (c.counts.map PassCounts.sent) ++ ' ' :: 'F' :: slipTotal (c.counts.map PassCounts.fills) ++
    ' ' :: 'H' :: slipTotal (c.counts.map PassCounts.heldRefs) ++
    ' ' :: 'S' :: slipTotal (c.counts.map PassCounts.spoiledLines) ++
    (match c.counts with
      | none => blanks 1
      | some k => if k.drift then ['D'] else blanks 1)

/-- The slip of a closed pass: 7 + m lines of 24 columns (R161, section 8.5). -/
def slipLines (bureau : Text) (reprint : Bool) (r : Record) (p : PassEntry) (c : PassClose) :
    List Text :=
  [padRight 12 bureau ++ blanks 5 ++ (if reprint then "REPRINT".toList else blanks 7),
   "JOB ".toList ++ figure 3 r.job ++ blanks 1 ++ padRight 10 r.slug ++ blanks 2 ++ figure 4 r.lines,
   "PASS ".toList ++ figure 1 p.number ++ blanks 1 ++ padRight 7 r.priority.text ++ blanks 1 ++
     digitsW 3 r.pitch.lpi ++ blanks 1 ++ digitsW 3 r.speed.rpm ++ blanks 2,
   slipStamp "START".toList p.start,
   slipStamp "END".toList c.stamp] ++
  c.results.map slipStation ++
  [slipOutcome c, slipTotals c]

end Sys2Proof.Machine
end

