-- ==== Sys2Proof/Machine/ReceiptOps.lean ====
section
/-! DEFINITION. The Receipt Unit's operations (chapter 8): opening, completing and closing records,
the slip queue and the printer. -/

namespace Sys2Proof.Machine

/-- The record of a job number, changed. -/
def updRecord (n : Nat) (f : Record → Record) (s : State) : State :=
  s.onReceipts fun c => { c with log := c.log.map fun r => if r.job = n then f r else r }

/-- The record of a job number. -/
def State.findRecord (s : State) (n : Nat) : Option Record := s.receipts.log.find? fun r => r.job == n

/-- A pass begun now: in progress, its start stamp read from the day clock (R151, R154). -/
def freshPass (j : Job) (s : State) : PassEntry :=
  { number := j.passNo, stations := j.stations, start := s.backup.clock, close := none }

/-- The record of a job that starts at pass number 1 (R150, R154). -/
def freshRecord (j : Job) (s : State) : Record :=
  { job := j.number
    slug := j.slug
    priority := j.priority
    pitch := j.pitch
    speed := j.speed
    lines := j.lines
    isOpen := true
    passes := [freshPass j s] }

/-- A record is opened as the newest; with 16 held the oldest reclaimable one is removed first (R154). -/
def openRecord (j : Job) (s : State) : State :=
  s.onReceipts fun c =>
    let kept := if c.log.length < Config.logCap then c.log else c.log.eraseP Record.reclaimable
    { c with log := kept ++ [freshRecord j s] }

/-- A repeat's pass is appended to the job's record (R155). -/
def appendPass (j : Job) (s : State) : State :=
  updRecord j.number (fun r => { r with passes := r.passes ++ [freshPass j s] }) s

/-- The start of a pass at the Receipt Unit (R20). -/
def recordStart (j : Job) (s : State) : State :=
  if j.passNo = 1 then openRecord j s else appendPass j s

/-- A record closes when its job has left the queue and no pass of it is in progress (R157). -/
def closeRecord (n : Nat) (s : State) : State :=
  if (s.findJob n).isSome then s
  else updRecord n (fun r => if r.inProgress then r else { r with isOpen := false }) s

/-- The slip of a closed pass is settled (R156): SKIPPED with 0 copies, otherwise PENDING. -/
def slipFor (copies : Nat) : SlipState := if copies = 0 then .skipped else .pending

/-- The entry a closed pass queues (R156). -/
def slipEntries (copies job pass : Nat) : List SlipEntry :=
  if copies = 0 then [] else [{ job := job, pass := pass, copies := copies, reprint := false }]

/-- The station results of a party list, with the noise counts of the roster (R131, R152). -/
def partyResults (party : List Party) (s : State) : List StationResult :=
  party.map fun e =>
    { station := e.station
      name := e.name
      final := some e.state
      noise := some (s.station e.station).noise }

/-- The counts of a pass at its close, the Scan Unit's among them (R73, R156). -/
def passCounts (p : Pass) (s : State) : PassCounts :=
  match s.scan.pass with
  | none => { sent := p.sent, fills := p.fills, heldRefs := 0, spoiledLines := 0, drift := false }
  | some x =>
    { sent := p.sent
      fills := p.fills
      heldRefs := x.heldRefs
      spoiledLines := x.spoiledLines
      drift := x.drift }

/-- The close of a pass as the Receipt Unit enters it (R156). -/
def passClose (p : Pass) (o : PassOutcome) (s : State) : PassClose :=
  { stamp := s.backup.clock
    outcome := o
    reason := p.reason
    secondary := p.secondary
    counts := some (passCounts p s)
    slip := slipFor s.settings.copies
    results := partyResults p.party s }

/-- A pass in progress takes its close. -/
def PassEntry.complete (c : PassClose) (e : PassEntry) : PassEntry :=
  if e.inProgress then { e with close := some c } else e

/-- The completion of the pass in progress of a job's record, with its slip entry (R156); the record
then closes if its job has left (R157). -/
def completePass (p : Pass) (o : PassOutcome) (s : State) : State :=
  let c := passClose p o s
  closeRecord p.job <|
    (updRecord p.job (fun r => { r with passes := r.passes.map (PassEntry.complete c) }) s).onReceipts
      fun x => { x with slips := x.slips ++ slipEntries s.settings.copies p.job p.number }

/-! ### The printer (section 8.6) -/

/-- The slip state of a closed pass of a record. -/
def setSlip (n p : Nat) (st : SlipState) (s : State) : State :=
  updRecord n
    (fun r =>
      { r with passes := r.passes.map fun e =>
          if e.number = p then
            { e with close := e.close.map fun c => { c with slip := st } }
          else e })
    s

/-- The pass of a record with a given number. -/
def Record.findPass (r : Record) (p : Nat) : Option PassEntry := r.passes.find? fun e => e.number == p

/-- The lines of the slip of an entry, composed from its record and the BUREAU setting (R161). -/
def composeSlip (e : SlipEntry) (s : State) : List Text :=
  match s.findRecord e.job with
  | none => []
  | some r =>
    match r.findPass e.pass with
    | none => []
    | some q =>
      match q.close with
      | none => []
      | some c => slipLines s.settings.bureau e.reprint r q c

/-- The printer begins the slip of an entry (R162). -/
def beginSlip (e : SlipEntry) (s : State) : State :=
  (setSlip e.job e.pass .printing s).onReceipts fun c =>
    { c with
      printer := .printing
      printing := some { rest := composeSlip e s, lineEnds := s.now + Config.slipLineTime } }

/-- With the printer READY and the slip queue not empty, the oldest entry's slip begins (R162). -/
def kick (s : State) : State :=
  match s.receipts.printer, s.receipts.slips with
  | .ready, e :: _ => beginSlip e s
  | _, _ => s

/-- The completion of a slip's last line (R162). -/
def copyDone (s : State) : State :=
  match s.receipts.slips with
  | [] => s.onReceipts fun c => { c with printer := .ready, printing := none }
  | e :: rest =>
    if 1 < e.copies then
      let e' := { e with copies := e.copies - 1, reprint := false }
      beginSlip e' (s.onReceipts fun c => { c with slips := e' :: rest })
    else
      kick <| post (.slip e.job e.pass) <|
        (setSlip e.job e.pass .printed s).onReceipts fun c =>
          { c with slips := rest, printer := .ready, printing := none }

/-- A line of the slip completes (R162). -/
def slipLineDone (s : State) : State :=
  match s.receipts.printing with
  | none => s
  | some pr =>
    let t := advanceTo pr.lineEnds s
    match pr.rest with
    | _ :: next :: more =>
      let after : Printing :=
        { rest := next :: more, lineEnds := pr.lineEnds + Config.slipLineTime }
      t.onReceipts fun c => { c with printing := some after }
    | _ => copyDone t

/-- A slip being printed is cut: its entry keeps its copies and is marked for reprint, its pass returns
to PENDING (R163, R165). -/
def cutSlip (s : State) : State :=
  match s.receipts.slips with
  | [] => s
  | e :: rest =>
    (setSlip e.job e.pass .pending s).onReceipts fun c =>
      { c with slips := { e with reprint := true } :: rest, printing := none }

end Sys2Proof.Machine
end

