-- ==== Sys2Proof/Machine/QueueOps.lean ====
section
/-! DEFINITION. The Transmission Queue's operations (chapter 1): the order of the jobs, job numbers,
binding, release, leaving, and the end of a pass. -/

namespace Sys2Proof.Machine

/-- The jobs in the order of the queue: by priority, and within it by arrival (R4). -/
def queueOrder (jobs : List Job) : List Job :=
  (jobs.filter fun j => j.priority == .flash) ++ (jobs.filter fun j => j.priority == .urgent) ++
    (jobs.filter fun j => j.priority == .routine)

/-- The head job: the first in the order that is QUEUED (R4). -/
def State.headJob (s : State) : Option Job :=
  (queueOrder s.queue.jobs).find? fun j => j.state == .queued

/-- A number is in use by a job in the queue or by a record in the log (R3). -/
def State.numberInUse (s : State) (n : Nat) : Bool :=
  (s.queue.jobs.any fun j => j.number == n) || (s.receipts.log.any fun r => r.job == n)

/-- The number after a job number, 1 following 999 (R3). -/
def nextNumber (n : Nat) : Nat := if n < 999 then n + 1 else 1

/-- The first number from a candidate on that is in use in neither place (R3). At most 24 numbers are
in use, so the search of 999 numbers always ends at one. -/
def freeNumber (s : State) : Nat → Nat → Nat
  | 0, n => n
  | fuel + 1, n => if s.numberInUse n then freeNumber s fuel (nextNumber n) else n

/-- The entry of a job to RELEASED (R15): its pending-trigger and calibration-tried flags clear, no
missing condition recorded, `*RELEASE`, and the wants raised. That the wants' `*DRUM` report stands after
`*RELEASE` is the model's choice (log entry 40). The start test follows in `settle`. -/
def release (why : ReleaseCause) (j : Job) (s : State) : State :=
  raiseQueueWant j.speed <| post (.release j.number why) <|
    (updJob j.number
        (fun j => { j with state := .released, pendingTrigger := false, calTried := false }) s).onQueue
      fun q => { q with missing := [] }

/-- The binding check on a job just MOUNTED (R8). -/
def bindingCheck (j : Job) (s : State) : State :=
  if s.timeReached j then release .time j s
  else if j.pendingTrigger ∧ j.release = none then release .pending j s
  else s

/-- A job is bound to the print: MOUNTED, load state BOUND, `*LOAD n`, then the binding check (R7, R9). -/
def bindJob (j : Job) (s : State) : State :=
  bindingCheck j <| post (.load j.number) <|
    (updJob j.number (fun j => { j with state := .mounted }) s).onQueue fun q => { q with load := .bound }

/-- A job leaves the queue (R24): its record removed; if it was bound, its wants withdrawn and, with
the cover closed, the print unbound; its receipt record closed where no pass of it runs (R157). That what the drive
does at the withdrawal (R34, R38) is posted before `*LOAD UNBOUND` is the model's choice (log entry 52). -/
def leaveQueue (j : Job) (s : State) : State :=
  let t := s.onQueue fun q => { q with jobs := q.jobs.filter fun k => k.number != j.number }
  closeRecord j.number <|
    if j.state = .queued then t
    else
      let u := withdrawQueueWant (t.onQueue fun q => { q with missing := [] })
      if u.coverOpen then u
      else post .loadUnbound (u.onQueue fun q => { q with load := .unbound })

/-- The end of a pass at the queue (R21): the wants withdrawn; the job FINISHED, or gone after a kill, with what the
drive does at the withdrawal posted before `*LOAD UNBOUND` (log entry 52). -/
def passEndQueue (n : Nat) (o : PassOutcome) (s : State) : State :=
  let t := withdrawQueueWant s
  if o = .killed then
    match t.findJob n with
    | none => t
    | some j => leaveQueue j t
  else updJob n (fun j => { j with state := .finished }) t

end Sys2Proof.Machine
end

