-- ==== Sys2Proof/Machine/ScanOps.lean ====
section
/-! DEFINITION. The Scan Unit's operations (chapter 3): pass context, line references, the codes of a
line, the line store, and the beginning and closing of lines at index marks. -/

namespace Sys2Proof.Machine

/-- What the Sender hands the Scan Unit for the revolution that opens (R67): no permission, or a
permission for the last phasing revolution of a call-up's phasing or of a phasing restart, or for a
last rephase or picture revolution. -/
inductive Permission where
  | withheld | lastPhasing | given
  deriving DecidableEq, Repr

/-- The pass context at the start of a pass (R52). -/
def scanContext (j : Job) : ScanPass :=
  { job := j.number
    curve := j.curve
    pitch := j.pitch
    lines := j.lines
    nextLine := 1
    line := none
    invalid := 0
    heldRefs := 0
    spoiledLines := 0
    drift := false
    failed := false
    ended := false }

/-- The start of a pass: its context, and the running references seeded from W0 and B0 (R52). -/
def scanBegin (j : Job) (s : State) : State :=
  s.onScan fun c => { c with pass := some (scanContext j), wr := s.cal.w0, br := s.cal.b0 }

/-- The end of scanning (R72): once per pass. -/
def scanEnd (s : State) : State :=
  s.onScan fun c =>
    match c.pass with
    | none => c
    | some x =>
      if x.ended then c else { c with store := [], pass := some { x with line := none, ended := true } }

/-- A list of codes brought to a length, each place not read a free value (log entry 8: never needed with
all positions read). -/
def padCodes (n : Nat) (codes : List Nat) : List Nat :=
  codes ++ (List.range' codes.length (n - codes.length)).map fun i => (Config.unreadCode i).val

/-- The line reference at position 32 (R53 to R56): the running references updated or held. -/
def lineReference (x : ScanPass) (l : ScanLine) (c : Scan) : Scan :=
  let wl := l.whiteSum / 16
  let bl := l.blackSum / 16
  if referenceValid wl bl then
    { c with wr := blend c.wr wl, br := blend c.br bl, pass := some { x with invalid := 0 } }
  else if x.invalid + 1 < 12 then
    { c with
      pass := some
        { x with
          invalid := x.invalid + 1
          heldRefs := x.heldRefs + 1
          line := some { l with heldRef := true } } }
  else
    { c with
      pass := some
        { x with
          invalid := 12
          heldRefs := x.heldRefs + 1
          line := none
          failed := true } }

/-- A sample position at the Scan Unit (R53, R57, R58); outside a line the position passes. -/
def scanSample (p x : Nat) (c : Scan) : Scan :=
  match c.pass with
  | none => c
  | some ctx =>
    match ctx.line with
    | none => c
    | some l =>
      if p < 16 then
        { c with pass := some { ctx with line := some { l with whiteSum := l.whiteSum + x } } }
      else if p < 32 then
        { c with pass := some { ctx with line := some { l with blackSum := l.blackSum + x } } }
      else if p = 32 then lineReference ctx l c
      else if p < Config.pictureStart then c
      else
        let code := toneCode (c.curvePoints ctx.curve) (normalise c.wr c.br x)
        let read := { l with codes := padCodes (p - Config.pictureStart) l.codes ++ [code] }
        { c with pass := some { ctx with line := some read } }

/-- The Scan Unit has failed the pass with REFERENCE (R56). -/
def Scan.referenceFailed (c : Scan) : Bool :=
  match c.pass with
  | none => false
  | some x => x.failed

/-- A step fault marks the line in progress spoiled (R42, R70). -/
def spoilLine (s : State) : State :=
  s.onScanPass fun x => { x with line := x.line.map fun l => { l with spoiled := true } }

/-- The record a line in progress becomes (R64, R68). -/
def lineRecord (x : ScanPass) (l : ScanLine) : LineRecord :=
  { job := x.job
    line := l.number
    codes := padCodes Config.lineCodes l.codes
    heldRef := l.heldRef
    drift := x.drift }

/-- The closing of the line in progress at an index mark (R68), given whether the drive's verdict on
the revolution just ended is good. -/
def closeLine (good : Bool) (c : Scan) : Scan :=
  match c.pass with
  | none => c
  | some x =>
    match x.line with
    | none => c
    | some l =>
      if !good || l.spoiled then
        { c with
          pass := some
            { x with
              line := none
              spoiledLines := x.spoiledLines + 1
              nextLine := if l.number = 1 then 1 else l.number + 1 } }
      else
        { c with
          store := c.store ++ [lineRecord x l]
          pass := some { x with line := none, nextLine := l.number + 1 } }

/-- The conditions of R69 for beginning a line in the revolution that opens. -/
def mayBeginLine (perm : Permission) (locked : Bool) (car : CarriageState) (c : Scan) (x : ScanPass) :
    Bool :=
  perm != .withheld && locked && decide (x.nextLine ≤ x.lines) && decide (c.store.length ≤ 1) &&
    !x.ended && !x.failed && (x.nextLine != 1 || car == .home) &&
    (perm != .lastPhasing || x.nextLine == 1)

/-- A new line in progress (R69). -/
def freshLine (n : Nat) : ScanLine :=
  { number := n, codes := [], heldRef := false, spoiled := false, whiteSum := 0, blackSum := 0 }

/-- The beginning of a line at an index mark, with its carriage step after line 1 (R69). -/
def beginLine (perm : Permission) (locked : Bool) (s : State) : State :=
  match s.scan.pass with
  | none => s
  | some x =>
    if mayBeginLine perm locked s.drive.carriage s.scan x then
      let t := s.onScanPass fun x => { x with line := some (freshLine x.nextLine) }
      if x.nextLine = 1 then t else orderStep x.pitch t
    else s

/-- A take of the record of line m (R66): the oldest record, if it carries line m. -/
def takeRecord (m : Nat) (s : State) : Option LineRecord × State :=
  match s.scan.store with
  | [] => (none, s)
  | r :: rest =>
    if r.line = m then (some r, s.onScan fun c => { c with store := rest }) else (none, s)

end Sys2Proof.Machine
end

