-- ==== Sys2Proof/Machine/SenderOps.lean ====
section
/-! DEFINITION. The Sender's operations (chapters 6 and 7): closing a pass, failures, call-up, pauses
and resumption, what each slot result and round end does to the party, and what the Sender does at an
index mark and at a sample position. -/

namespace Sys2Proof.Machine

/-! ### Where a pass stands -/

/-- The stages of a pass that decide what ends it (R144, R145, R147): before anything was sent, while
the picture is being sent, after it was sent in full, and the kill signal. -/
inductive Stage where
  | idle | unsent | sending | sent | killing
  deriving DecidableEq, Repr

/-- The stage of a pass from its circuit state and resume point (R144). -/
def stageOf (c : CircuitState) (r : Option ResumePoint) : Stage :=
  match c with
  | .free => .idle
  | .broken => .idle
  | .callup => .unsent
  | .answer => .unsent
  | .phasing => .sending
  | .picture => .sending
  | .ending => .sent
  | .gathering => .sent
  | .killing => .killing
  | .paused =>
    match r with
    | none => .idle
    | some .callup => .unsent
    | some .rephase => .sending
    | some .phasing => .sending
    | some .ending => .sent
    | some .gathering => .sent

/-- The stage of the pass in progress. -/
def State.stage (s : State) : Stage :=
  match s.sender.pass with
  | none => .idle
  | some p => stageOf s.sender.circ p.resume

/-- Set the circuit state and the tone output, with no signal in progress. -/
def setCirc (c : CircuitState) (t : Tone) (s : State) : State :=
  s.onSender fun x => { x with circ := c, tone := t, signalEnds := none }

/-- The output of a pause: the hold signal, steady Fw, or silence while BREAK is present (R139). -/
def pauseTone (p : Pass) : Tone := if p.breakReason then .silent else .steady p.copy.white

/-- A station of the party is JOINED. -/
def Pass.anyJoined (p : Pass) : Bool := p.party.any fun e => e.state == .joined

/-! ### Closing a pass (R131) -/

/-- A party state at the close: INVITED becomes ABSENT, JOINED becomes NO_RECEIPT (R130, R131). -/
def PartyState.closed : PartyState → PartyState
  | .invited => .absent
  | .joined => .noReceipt
  | .absent => .absent
  | .masked => .masked
  | .dropped w k => .dropped w k
  | .received => .received
  | .repeatAsked => .repeatAsked
  | .noReceipt => .noReceipt

/-- The pass record with its party as it is handed to the Receipt Unit (R131 step 2). -/
def Pass.closed (p : Pass) : Pass :=
  { p with party := p.party.map fun e => { e with state := e.state.closed } }

/-- The Sender closes the pass (R131), scanning having ended (R72). -/
def closePass (s : State) : State :=
  match s.sender.pass with
  | none => s
  | some p =>
    let o := p.outcome.getD .failed
    let t := completePass p.closed o (stopRounds (scanEnd s))
    let u := post (.passEnd p.job p.number o p.reason) t
    let v := if p.detached then u else passEndQueue p.job o u
    ((setCirc (if v.breakPresent then .broken else .free) .silent v).onSender fun x =>
        { x with pass := none }).onScan fun c => { c with pass := none }

/-- The pass's outcome is decided: the pause-reason set, the pause and the deadlines are cleared, and a
line being sent is cut (R144, R149). -/
def decidePass (o : PassOutcome) (r : Option Reason) (s : State) : State :=
  s.onPass fun p =>
    { p with
      outcome := some o
      reason := r
      holdReason := false
      breakReason := false
      pausePending := false
      resume := none
      holdDeadline := none
      breakDeadline := none
      line := none }

/-- The entry to KILLING (R146): the kill signal begins and scanning ends (R72). -/
def enterKilling (s : State) : State :=
  scanEnd <| s.onSender fun x =>
    { x with circ := .killing, tone := .kill s.now, signalEnds := some (s.now + Config.signalTime) }

/-- The pass ends with an outcome, through the kill signal or at once (R144, R145). -/
def terminate (o : PassOutcome) (r : Option Reason) (signal : Bool) (s : State) : State :=
  if signal then enterKilling (decidePass o r s) else closePass (decidePass o r s)

/-- A reason recorded as the secondary reason, where none is (R147). -/
def secondFault (r : Reason) (s : State) : State :=
  s.onPass fun p => { p with secondary := some (p.secondary.getD r) }

/-- A failure reason reaches the pass (R144, R147). -/
def failPass (r : Reason) (s : State) : State :=
  match s.sender.pass with
  | none => s
  | some p =>
    match s.stage with
    | .idle => s
    | .unsent => terminate .failed (some r) false s
    | .sending => terminate .failed (some r) (!p.breakReason) s
    | .sent => if r = .breakTimeout then terminate .failed (some r) false s else secondFault r s
    | .killing => secondFault r s

/-! ### Call-up (R113) -/

/-- The party entry of a listed station at call-up (R96, R113 step 2). -/
def callEntry (s : State) (n : Nat) : Party :=
  { station := n
    name := (s.station n).name
    state :=
      if (s.station n).name.isNone then .absent
      else if (s.station n).masked then .masked
      else .invited
    maskedInWindow := false
    lateReported := false
    result := none }

/-- The stations of a party that are INVITED. -/
def invitedOf (party : List Party) : List Nat :=
  (party.filter fun e => e.state == .invited).map (·.station)

/-- An entry to CALLUP (R113): rounds started, party built, windows cleared, carriage returned, call-up
signal begun; with no station INVITED the pass fails at once with NO_ANSWER. -/
def enterCallup (s : State) : State :=
  match s.sender.pass with
  | none => s
  | some p =>
    let t := startRounds p.copy.slots s
    let party := p.stations.map (callEntry t)
    let u := passToDrive <| t.onPass fun p =>
      { p with
        party := party
        callDone := false
        windowOpen := false
        openRound := none
        closeRound := none }
    let called := invitedOf party
    if called.isEmpty then failPass .noAnswer (setCirc .callup .silent u)
    else
      u.onSender fun x =>
        { x with
          circ := .callup
          tone := .callup called s.now
          signalEnds := some (s.now + callupTime called.length) }

/-! ### Ending (R128) -/

/-- The entry to ENDING: Fb for 3.0 s, and the end of scanning. -/
def enterEnding (s : State) : State :=
  match s.sender.pass with
  | none => s
  | some p =>
    scanEnd <| s.onSender fun x =>
      { x with
        circ := .ending
        tone := .steady p.copy.black
        signalEnds := some (s.now + Config.signalTime) }

/-! ### Pauses (sections 7.1 to 7.4) -/

/-- The `*PAUSE` report of the set as it stands (R134). -/
def postPause (s : State) : State :=
  match s.sender.pass with
  | none => s
  | some p => post (.pause p.job p.holdReason p.breakReason) s

/-- A party entry as a pause from CALLUP or ANSWER leaves it: JOINED becomes INVITED again (R136). -/
def uninvite (e : Party) : Party := if e.state = .joined then { e with state := .invited } else e

/-- A pause takes effect with a resume point (R136). -/
def takePause (pt : ResumePoint) (s : State) : State :=
  match s.sender.pass with
  | none => s
  | some p =>
    postPause <| setCirc .paused (pauseTone p) <| s.onPass fun p =>
      let q := { p with resume := some pt, pausePending := false, line := none }
      if pt = .callup then
        { q with
          party := q.party.map uninvite
          windowOpen := false
          openRound := none
          closeRound := none }
      else q

/-- The output and the `*PAUSE` of a paused pass whose set has changed and is not empty (R134, R139). -/
def pauseChanged (s : State) : State :=
  match s.sender.pass with
  | none => s
  | some p => postPause (s.onSender fun x => { x with tone := pauseTone p })

/-- A reason has entered the set: where and when the pause takes effect (R134, R136, R141). -/
def reasonEntered (s : State) : State :=
  match s.sender.pass with
  | none => s
  | some p =>
    match s.sender.circ with
    | .paused => pauseChanged s
    | .picture =>
      if p.pausePending then s
      else if p.line.isNone then takePause .rephase s
      else s.onPass fun p => { p with pausePending := true }
    | .phasing => s.onPass fun p => { p with pausePending := true }
    | .callup => takePause .callup s
    | .answer => takePause .callup s
    | .ending => takePause .ending s
    | .gathering => takePause .gathering s
    | .free => s
    | .broken => s
    | .killing => s

/-- HOLD enters the set (R135, R143). -/
def addHold (s : State) : State :=
  reasonEntered <| s.onPass fun p =>
    { p with holdReason := true, holdDeadline := some (s.now + 60000 * s.settings.holdMax) }

/-- BREAK enters the set (R134, R143). -/
def addBreak (s : State) : State :=
  reasonEntered <| s.onPass fun p =>
    { p with breakReason := true, breakDeadline := some (s.now + 60000 * s.settings.breakMax) }

/-- The resumption at a resume point takes effect (R141, R142). That `*RESUME` is posted before the `*END` of a
restarted call-up that invites no station (R113) is the model's choice (log entry 51). -/
def resumeAt (pt : ResumePoint) (s : State) : State :=
  match s.sender.pass with
  | none => s
  | some p =>
    let t := post (.resume p.job pt) (s.onPass fun p => { p with resume := none })
    match pt with
    | .rephase =>
      (setCirc .phasing t.sender.tone t).onPass fun p =>
        { p with rephase := true, phaseCount := 0, lastPhasing := false }
    | .phasing =>
      (setCirc .phasing t.sender.tone t).onPass fun p =>
        { p with rephase := false, phaseCount := 0, lastPhasing := false }
    | .callup => enterCallup t
    | .ending => enterEnding t
    | .gathering => setCirc .gathering .silent t

/-- A reason has left the set (R136, R138, R141): a pending pause is cancelled by an empty set; a
paused pass goes on in its pause, waits for an index mark, or resumes at once. -/
def reasonLeft (s : State) : State :=
  match s.sender.pass with
  | none => s
  | some p =>
    if p.holdReason ∨ p.breakReason then
      if s.sender.circ = .paused then pauseChanged s else s
    else if s.sender.circ = .paused then
      match p.resume with
      | some .callup => resumeAt .callup s
      | some .ending => resumeAt .ending s
      | some .gathering => resumeAt .gathering s
      | _ => s.onSender fun x => { x with tone := pauseTone p }
    else s.onPass fun p => { p with pausePending := false }

/-- HOLD leaves the set and its deadline is dropped (R138). -/
def removeHold (s : State) : State :=
  reasonLeft (s.onPass fun p => { p with holdReason := false, holdDeadline := none })

/-- BREAK leaves the set and its deadline is dropped (R134). -/
def removeBreak (s : State) : State :=
  reasonLeft (s.onPass fun p => { p with breakReason := false, breakDeadline := none })

/-- Line N has been taken (R135). -/
def Pass.lastLineTaken (p : Pass) : Bool := p.line.isSome && p.sent + 1 == p.lines

/-- How a HOLD is taken (R135): refused, or accepted with the pause taken at once or pending. -/
def holdAnswer (c : CircuitState) (p : Pass) : Except Code Bool :=
  match c with
  | .phasing => if p.pausePending ∧ p.holdReason then .error .state else .ok false
  | .picture =>
    if p.lastLineTaken then .error .late
    else if p.pausePending then (if p.holdReason then .error .state else .ok false)
    else .ok p.line.isNone
  | .paused =>
    if p.holdReason then .error .state
    else if p.resume = some .rephase ∨ p.resume = some .phasing then .ok true
    else .error .state
  | _ => .error .state

/-- A break-on reaches the Sender (R105, R107, R134, R146). -/
def senderBreakOn (s : State) : State :=
  match s.sender.pass with
  | none => if s.sender.circ = .free then setCirc .broken .silent s else s
  | some _ => if s.sender.circ = .killing then closePass s else addBreak s

/-- A break-off reaches the Sender (R105, R107, R134). -/
def senderBreakOff (s : State) : State :=
  match s.sender.pass with
  | none => if s.sender.circ = .broken then setCirc .free .silent s else s
  | some p => if p.breakReason then removeBreak s else s

/-! ### The party (sections 6.3 to 6.8) -/

/-- The party entry of a station, changed. -/
def updParty (n : Nat) (f : Party → Party) (s : State) : State :=
  s.onPass fun p => { p with party := p.party.map fun e => if e.station = n then f e else e }

/-- The party entry of a station. -/
def Pass.entry (p : Pass) (n : Nat) : Option Party := p.party.find? fun e => e.station == n

/-- A station is dropped with a reason, its drop line the lines sent (R117, R125 to R127). -/
def dropStation (w : DropReason) (n : Nat) (s : State) : State :=
  match s.sender.pass with
  | none => s
  | some p =>
    post (.stationDropped p.job n w p.sent) <|
      updParty n (fun e => { e with state := .dropped w p.sent }) s

/-- The NO_PARTY test after a drop (R126). -/
def noPartyTest (s : State) : State :=
  match s.sender.pass with
  | none => s
  | some p => if p.anyJoined then s else failPass .noParty s

/-- The circuit states in which the answer window has closed and the pass has not (R119). In a pause whose resume
point is CALLUP the window is abandoned (R136), so none has closed (log entry 21). -/
def windowClosed (c : CircuitState) (p : Pass) : Bool :=
  match c with
  | .free => false
  | .broken => false
  | .callup => false
  | .answer => !p.windowOpen
  | .phasing => true
  | .picture => true
  | .ending => true
  | .gathering => true
  | .killing => true
  | .paused => p.resume != some .callup

/-- A late READY (R119). -/
def lateReady (e : Party) (s : State) : State :=
  if e.lateReported then s
  else updParty e.station (fun e => { e with lateReported := true }) (post (.late e.station) s)

/-- The silence count of a station is cleared. -/
def clearSilence (n : Nat) (s : State) : State := updStation n (fun e => { e with silence := 0 }) s

/-- A reply of a JOINED station in ANSWER, PHASING, PICTURE and PAUSED (R117, R126, R140). -/
def joinedReply (k : ReplyKind) (n : Nat) (s : State) : State :=
  match k with
  | .noise =>
    updStation n (fun e => { e with noise := countUp Config.countCap e.noise, silence := 0 }) s
  | .stop => dropStation .stop n s
  | .ready => clearSilence n s
  | .ok => clearSilence n s
  | .received => clearSilence n s
  | .repeatPass => clearSilence n s

/-- A READY joins an INVITED station in slot of round r and restarts the window (R116). -/
def joinStation (n r : Nat) (s : State) : State :=
  match s.sender.pass with
  | none => s
  | some p =>
    clearSilence n <| post (.stationJoined p.job n) <|
      (updParty n (fun e => { e with state := .joined }) s).onPass fun p =>
        { p with closeRound := some (min (r + p.copy.answer) (p.openRound.getD 0 + p.copy.answerMax)) }

/-- A reply with the NO_PARTY test after a drop (R126, R118, R140). -/
def joinedReplyTested (k : ReplyKind) (n : Nat) (s : State) : State :=
  if k = .stop then noPartyTest (joinedReply k n s) else joinedReply k n s

/-- A reply of a JOINED station in ENDING and GATHERING (R129). -/
def gatheringReply (k : ReplyKind) (n : Nat) (s : State) : State :=
  match k with
  | .received => updParty n (fun e => { e with state := .received }) s
  | .repeatPass => updParty n (fun e => { e with state := .repeatAsked }) s
  | .ready => s
  | .ok => s
  | .noise => s
  | .stop => s

/-- A reply of a station of the party in its own slot of round r (R115 to R119, R126, R129, R140,
R146). -/
def partyReply (k : ReplyKind) (e : Party) (r : Nat) (p : Pass) (s : State) : State :=
  if k = .ready ∧ e.state = .absent then
    if windowClosed s.sender.circ p then lateReady e s else s
  else if e.state = .joined then
    match s.sender.circ with
    | .answer =>
      if p.windowOpen then joinedReply k e.station s else joinedReplyTested k e.station s
    | .phasing => joinedReplyTested k e.station s
    | .picture => joinedReplyTested k e.station s
    | .paused =>
      if s.stage = .sending then joinedReplyTested k e.station s else joinedReply k e.station s
    | .ending => gatheringReply k e.station s
    | .gathering => gatheringReply k e.station s
    | .free => s
    | .broken => s
    | .callup => s
    | .killing => s
  else if k = .ready ∧ e.state = .invited ∧ e.maskedInWindow = false ∧ s.sender.circ = .answer ∧
      p.windowOpen then
    joinStation e.station r s
  else s

/-- A slot result reaches the Sender (R115, R125): recorded in its owner's party entry, and a reply
applied. -/
def senderSlot (owner round : Nat) (res : SlotResult) (s : State) : State :=
  match s.sender.pass with
  | none => s
  | some p =>
    match p.entry owner with
    | none => s
    | some e =>
      let t := updParty owner (fun e => { e with result := some res }) s
      match res.kind with
      | .empty => t
      | .garbled => t
      | .reply k => partyReply k e round p t

/-- A mask change at a round end for one newly masked station (R127). -/
def maskStation (s : State) (n : Nat) : State :=
  match s.sender.pass with
  | none => s
  | some p =>
    match p.entry n with
    | none => s
    | some e =>
      match e.state with
      | .joined => dropStation .masked n s
      | .invited => updParty n (fun e => { e with maskedInWindow := true }) s
      | _ => s

/-- The mask changes of a round end (R127): none in KILLING (R146), none in a pause whose resume point is CALLUP
(R140). Their ascending order of station is the model's choice (log entry 44). -/
def maskChanges (newly : List Nat) (s : State) : State :=
  match s.sender.circ with
  | .killing => s
  | .paused => if s.stage = .unsent then s else newly.foldl maskStation s
  | _ => newly.foldl maskStation s

/-- A JOINED station whose slot this round was EMPTY or GARBLED without the break mark (R125). -/
def Party.wasSilent (e : Party) : Bool :=
  e.state == .joined &&
    match e.result with
    | some ⟨.empty, m⟩ => !m
    | some ⟨.garbled, m⟩ => !m
    | _ => false

/-- The silence watch on one station at a round end (R125). -/
def watchStation (s : State) (n : Nat) : State :=
  match s.sender.pass with
  | none => s
  | some p =>
    let t := updStation n (fun e => { e with silence := countUp 12 e.silence }) s
    if p.copy.silence ≤ (t.station n).silence then dropStation .silent n t else t

/-- The silence watch at a round end in PHASING and PICTURE (R125). Its ascending order of station is the model's
choice (log entry 44). -/
def silenceWatch (s : State) : State :=
  match s.sender.pass with
  | none => s
  | some p => ((p.party.filter Party.wasSilent).map (·.station)).foldl watchStation s

/-- The slot results of the round are cleared for the next (R125, log entry 47). -/
def clearResults (s : State) : State :=
  s.onPass fun p => { p with party := p.party.map fun e => { e with result := none } }

/-- The answer window opens at a round end (R114). -/
def openWindow (r : Nat) (s : State) : State :=
  s.onSender fun x =>
    { x with
      circ := .answer
      pass := x.pass.map fun p =>
        { p with
          windowOpen := true
          openRound := some r
          closeRound := some (min (r + p.copy.answer) (r + p.copy.answerMax)) } }

/-- The answer window closes (R118): INVITED becomes ABSENT, and the party decides what follows. -/
def closeWindow (s : State) : State :=
  let t := s.onPass fun p =>
    { p with
      windowOpen := false
      party := p.party.map fun e => if e.state = .invited then { e with state := .absent } else e }
  match t.sender.pass with
  | none => t
  | some p =>
    if p.anyJoined then t
    else if p.party.any fun e => e.state.dropLine.isSome then failPass .noParty t
    else failPass .noAnswer t

/-- The outcome at the end of gathering (R130): COMPLETE when every station that joined is RECEIVED;
MASKED and ABSENT stations are not tested. -/
def gatheringOutcome (party : List Party) : PassOutcome :=
  if party.all fun e => e.state == .received || e.state == .absent || e.state == .masked then .complete
  else .partialReceipt

/-- A round end in GATHERING without the break mark counts; the GATHER-th closes the pass (R129, R130). -/
def gatherRound (s : State) : State :=
  match s.sender.pass with
  | none => s
  | some p =>
    let t := s.onPass fun p => { p with gatherCount := p.gatherCount + 1 }
    if p.copy.gather ≤ p.gatherCount + 1 then
      closePass (t.onPass fun p => { p with outcome := some (gatheringOutcome p.party) })
    else t

/-- The NO_PARTY test of a round end (R118, R126, R140): only where the round end dropped a station. -/
def roundEndTest (before : Pass) (s : State) : State :=
  if before.anyJoined then noPartyTest s else s

/-- A round end at the Sender (R114, R118, R125, R127, R129, R140): mask changes first, then what the
circuit state asks for. One with the break mark counts nothing toward the window, silence or gathering
(R106). One in CALLUP before the end of the signal only applies its mask changes (R114), and one in a pause whose
resume point is CALLUP does nothing to the party (R140). That the slot results are cleared at every other round end
outside PHASING and PICTURE too is the model's choice (log entry 47). -/
def senderRoundEnd (round : Nat) (newly : List Nat) (brk : Bool) (s : State) : State :=
  match s.sender.pass with
  | none => s
  | some p =>
    let t := maskChanges newly s
    match s.sender.circ with
    | .callup =>
      if p.callDone then clearResults (if brk then t else openWindow round t) else t
    | .answer =>
      if p.windowOpen then
        clearResults (if !brk && decide (p.closeRound.getD 0 ≤ round) then closeWindow t else t)
      else roundEndTest p (clearResults t)
    | .phasing => roundEndTest p (clearResults (if brk then t else silenceWatch t))
    | .picture => roundEndTest p (clearResults (if brk then t else silenceWatch t))
    | .paused =>
      if s.stage = .unsent then t
      else if s.stage = .sending then roundEndTest p (clearResults t)
      else clearResults t
    | .gathering => if brk then clearResults t else gatherRound (clearResults t)
    | .ending => clearResults t
    | .killing => clearResults t
    | .free => t
    | .broken => t

/-! ### Index marks (R120, R121, R124, R136, R141) -/

/-- Steps 1 and 2 of R124. -/
def countLine (l : SentLine) (p : Pass) : Pass :=
  { p with
    sent := p.sent + 1
    fills := if l.fill then p.fills + 1 else p.fills
    heldSent := if l.heldRef then p.heldSent + 1 else p.heldSent
    lastCodes := some l.codes
    line := none }

/-- Step 4 of R124: the `*LINE` report at each multiple of PROGRESS. -/
def postProgress (l : SentLine) (p : Pass) (s : State) : State :=
  if s.settings.progress ≠ 0 ∧ p.sent % s.settings.progress = 0 then
    post (.line p.job p.sent p.heldSent l.drift) s
  else s

/-- The completion of a picture line at an index mark (R124), with the pause that may take effect
there (R136), and the permission for the revolution that opens (R67). -/
def completeLine (l : SentLine) (p : Pass) (s : State) : State × Permission :=
  let q := countLine l p
  let t := s.onPass fun _ => q
  let failed := decide (4 ≤ p.consecFills)
  let u := postProgress l q (if failed then failPass .fills t else t)
  if failed then (u, .withheld)
  else if q.lines ≤ q.sent then
    let v := enterEnding u
    (if p.pausePending then takePause .ending v else v, .withheld)
  else if p.pausePending then (takePause .rephase u, .withheld)
  else (u, .given)

/-- The revolutions a phasing needs: PHASE, or REPHASE in a rephase (R120, R142). -/
def Pass.phaseTarget (p : Pass) : Nat := if p.rephase then p.copy.rephase else p.copy.phase

/-- An index mark in PHASING (R120, R121, R136, R142), given the drive's verdict. -/
def phasingMark (good : Bool) (p : Pass) (s : State) : State × Permission :=
  let count := if good then p.phaseCount + 1 else p.phaseCount
  let t := s.onPass fun p => { p with phaseCount := count }
  if p.pausePending then
    (takePause (if p.rephase then .rephase else .phasing) t, .withheld)
  else if p.lastPhasing ∧ good ∧ p.phaseTarget ≤ count then
    (t.onSender fun x =>
      { x with
        circ := .picture
        pass := x.pass.map fun p => { p with rephase := false, lastPhasing := false, line := none } },
     .given)
  else if p.phaseTarget ≤ count + 1 ∧ (p.rephase ∨ s.drive.carriage = .home) then
    (t.onPass fun p => { p with lastPhasing := true }, if p.rephase then .given else .lastPhasing)
  else (t.onPass fun p => { p with lastPhasing := false }, .withheld)

/-- An index mark at the Sender: the state after it and the scan permission for the revolution that
opens (R67). -/
def senderIndex (good : Bool) (s : State) : State × Permission :=
  match s.sender.pass with
  | none => (s, .withheld)
  | some p =>
    match s.sender.circ with
    | .answer =>
      if !p.windowOpen && p.anyJoined then
        ((setCirc .phasing s.sender.tone s).onPass fun p =>
            { p with rephase := false, phaseCount := 0, lastPhasing := false }, .withheld)
      else (s, .withheld)
    | .phasing => phasingMark good p s
    | .picture =>
      match p.line with
      | none => (s, .given)
      | some l => completeLine l p s
    | .paused =>
      if p.holdReason ∨ p.breakReason then (s, .withheld)
      else
        match p.resume with
        | some .rephase => (resumeAt .rephase s, .withheld)
        | some .phasing => (resumeAt .phasing s, .withheld)
        | _ => (s, .withheld)
    | _ => (s, .withheld)

/-! ### Sample positions (R111, R122, R123) -/

/-- The line a take begins: the record's, or a fill line of the last codes, white for line 1. -/
def takenLine (r : Option LineRecord) (p : Pass) : SentLine :=
  match r with
  | some r => { codes := r.codes, fill := false, heldRef := r.heldRef, drift := r.drift }
  | none =>
    { codes := p.lastCodes.getD (List.replicate Config.lineCodes 0)
      fill := true
      heldRef := false
      drift := false }

/-- The take at position 48 of a picture revolution (R122, R123). -/
def takeLine (p : Pass) (s : State) : State :=
  let (r, t) := takeRecord (p.sent + 1) s
  t.onPass fun p =>
    { p with
      line := some (takenLine r p)
      consecFills := if r.isSome then 0 else p.consecFills + 1 }

/-- The tone put out at a position of a picture revolution (R111). -/
def pictureTone (pos : Nat) (p : Pass) (t : Tone) : Tone :=
  if pos < Config.pictureStart then .steady p.copy.black
  else
    match p.line with
    | none => t
    | some l =>
      .steady
        (toneFrequency p.copy.white p.copy.black (l.codes.getD (pos - Config.pictureStart) 0))

/-- A sample position at the Sender. -/
def senderSample (pos : Nat) (s : State) : State :=
  match s.sender.pass with
  | none => s
  | some p =>
    match s.sender.circ with
    | .phasing =>
      s.onSender fun x =>
        { x with tone := .steady (if pos < Config.pictureStart then p.copy.black else p.copy.white) }
    | .picture =>
      let t := if pos = Config.pictureStart ∧ p.line.isNone then takeLine p s else s
      t.onSender fun x =>
        { x with tone := (x.pass.map fun p => pictureTone pos p x.tone).getD x.tone }
    | _ => s

end Sys2Proof.Machine
end

