-- ==== Sys2Proof/Machine/StartOps.lean ====
section
/-! DEFINITION. The start of a job (R16 to R20): the test for an automatic calibration, the start test
with its `*WAIT`, the hand-over of the pass; and what closes a step: `settle`, the printer, the
transmitter. -/

namespace Sys2Proof.Machine

/-- The pass record at the start of a pass (R20, R110, R178). The phasing count 0, the last-phasing mark clear and
the gathering count 0 before the Sender sets them are the model's choice (log entry 48). -/
def freshPassRecord (j : Job) (copy : Guarded) : Pass :=
  { job := j.number
    number := j.passNo
    stations := j.stations
    lines := j.lines
    speed := j.speed
    sent := 0
    fills := 0
    consecFills := 0
    lastCodes := none
    heldSent := 0
    windowOpen := false
    openRound := none
    closeRound := none
    callDone := false
    phaseCount := 0
    lastPhasing := false
    gatherCount := 0
    outcome := none
    reason := none
    secondary := none
    detached := false
    holdReason := false
    breakReason := false
    pausePending := false
    resume := none
    rephase := false
    holdDeadline := none
    breakDeadline := none
    line := none
    copy := copy
    party := [] }

/-- The start of a job (R20): ACTIVE, its pass handed to the Receipt Unit, the Scan Unit and the Sender,
`*START n p`, and the call-up. -/
def startJob (j : Job) (s : State) : State :=
  let t := (updJob j.number (fun j => { j with state := .active }) s).onQueue fun q =>
    { q with missing := [] }
  let u := (scanBegin j (recordStart j t)).onSender fun x =>
    { x with pass := some (freshPassRecord j s.settings.guarded) }
  enterCallup (post (.start j.number j.passNo) u)

/-- The conditions under which the queue asks for an automatic calibration (R18). -/
def State.asksCalibration (s : State) (j : Job) : Bool :=
  s.lockedAtSpeed j.speed && s.drive.lamp == .ready &&
    (s.cal.state == .none || s.cal.state == .stale || (s.cal.state == .failed && !j.calTried))

/-- The queue asks for an automatic calibration where R18 has it ask. -/
def autoCalibrate (j : Job) (s : State) : State :=
  if s.asksCalibration j then
    askCalibration (updJob j.number (fun j => { j with calTried := true }) s)
  else s

/-- The start test (R16, R19): the job starts, or a changed set of missing conditions is posted. -/
def startTest (j : Job) (s : State) : State :=
  let causes := s.missingCauses j
  if causes = [] then startJob j s
  else if causes = s.queue.missing then s
  else post (.wait j.number causes) (s.onQueue fun q => { q with missing := causes })

/-- The queue's tests for its RELEASED job, made once at the end of a step in which a tested state may
have changed (R16, R18, log entry 6). A calibration asked for here in the step of an index mark begins at a later
mark (log entry 55). -/
def settle (s : State) : State :=
  match s.releasedJob with
  | none => s
  | some j => startTest j (autoCalibrate j s)

/-- What follows a change of the tested states or of the slip queue within a step: the queue's tests and
the printer (R16, R162). -/
def conclude (s : State) : State := kick (settle s)

/-- The end of a step: the queue's tests, the printer (R162), the transmitter (R171). -/
def finish (s : State) : State := pump (conclude s)

end Sys2Proof.Machine
end

