-- ==== Sys2Proof/Machine/CircuitEvents.lean ====
section
/-! DEFINITION. The events of the return channel (sections 5.3 and 5.5): carrier and characters, the end
of a slot with the round end, the break tone and the two timers of the break detector. -/

namespace Sys2Proof.Machine

/-! ### Slots -/

/-- The slot record, changed while rounds run (R98, R99). -/
def onRounds (f : Rounds → Rounds) (s : State) : State :=
  s.onCircuit fun c => { c with rounds := c.rounds.map f }

/-- A character joins the slot record, which keeps its first three (R99). -/
def appendChar (ch : ReturnChar) (r : Rounds) : Rounds :=
  if r.chars.length < 3 then { r with chars := r.chars ++ [ch] } else r

/-- A GARBLED slot raises the garble count, to at most 65,535 (R103). -/
def countGarble (k : SlotKind) (s : State) : State :=
  if k = .garbled then s.onCircuit fun c => { c with garble := countUp Config.countCap c.garble } else s

/-- The slot is the last of its round. -/
def Rounds.lastSlot (r : Rounds) : Bool := decide (r.slots ≤ r.slot + 1)

/-- The slot after a slot: slot 0 of the next round after the last (R102), with its break-seen mark. -/
def nextSlot (r : Rounds) (brk : Bool) : Rounds :=
  if r.lastSlot then freshSlot r.slots (r.round + 1) 0 (r.slotEnds + Config.slotTime) brk
  else freshSlot r.slots r.round (r.slot + 1) (r.slotEnds + Config.slotTime) brk

/-- The round end after the last slot (R102): the mask applied, the event handed to the Sender. Rounds
that the slot result itself stopped have no round end (R98). -/
def roundEnd (r : Rounds) (s : State) : State :=
  if s.circuit.rounds.isSome && r.lastSlot then
    senderRoundEnd r.round s.newlyMasked s.breakPresent (applyMask s)
  else s

/-- The end of a slot (R100, R102, R103). -/
def slotEnd (s : State) : State :=
  match s.circuit.rounds with
  | none => s
  | some r =>
    let k := decideSlot r
    let t := senderSlot (r.slot + 1) r.round { kind := k, breakMark := r.breakSeen } <|
      countGarble k (advanceTo r.slotEnds s)
    let u := roundEnd r t
    onRounds (fun _ => nextSlot r u.breakPresent) u

/-! ### The break detector (R104 to R106) -/

/-- A tone-on at the detector (R104). -/
def toneOn (s : State) : State :=
  s.onCircuit fun c =>
    match c.detector with
    | .clear => { c with detector := .arming, armingTimer := some (s.now + Config.armingTime) }
    | .ending => { c with detector := .present, endingTimer := none }
    | .arming => c
    | .present => c

/-- A tone-off at the detector (R104). -/
def toneOff (s : State) : State :=
  s.onCircuit fun c =>
    match c.detector with
    | .arming => { c with detector := .clear, armingTimer := none }
    | .present => { c with detector := .ending, endingTimer := some (s.now + Config.endingTime) }
    | .clear => c
    | .ending => c

/-- The slot in progress is marked by break (R99, R106). -/
def markBreak (s : State) : State := onRounds (fun r => { r with breakSeen := true }) s

/-- The arming timer runs out (R104): the break is declared, reported and handed to the Sender (R105). -/
def armingExpiry (s : State) : State :=
  match s.circuit.detector, s.circuit.armingTimer with
  | .arming, some m =>
    senderBreakOn <| post .breakOn <| markBreak <|
      (advanceTo m s).onCircuit fun c => { c with detector := .present, armingTimer := none }
  | _, _ => s

/-- The ending timer runs out (R104): the break is over, reported and handed to the Sender (R105). -/
def endingExpiry (s : State) : State :=
  match s.circuit.detector, s.circuit.endingTimer with
  | .ending, some m =>
    senderBreakOff <| post .breakOff <|
      (advanceTo m s).onCircuit fun c => { c with detector := .clear, endingTimer := none }
  | _, _ => s

/-! ### The rows -/

/-- CARRIER_PRESENT (R99): with rounds stopped it counts toward nothing (R98). -/
def execCarrierPresent (s : State) : Host.Outcome State Fault Refusal :=
  live (onRounds fun r => { r with carrier := true }) s

/-- RETURN_CHARACTER (R99). -/
def execReturnCharacter (ch : ReturnChar) (s : State) : Host.Outcome State Fault Refusal :=
  live (onRounds (appendChar ch)) s

/-- SLOT_END (R100). -/
def execSlotEnd (s : State) : Host.Outcome State Fault Refusal :=
  live (fun s => finish (slotEnd s)) s

/-- TONE_ON (R104). -/
def execToneOn (s : State) : Host.Outcome State Fault Refusal := live toneOn s

/-- TONE_OFF (R104). -/
def execToneOff (s : State) : Host.Outcome State Fault Refusal := live toneOff s

/-- ARMING_TIMER_EXPIRY (R104). -/
def execArmingTimerExpiry (s : State) : Host.Outcome State Fault Refusal :=
  live (fun s => finish (armingExpiry s)) s

/-- ENDING_TIMER_EXPIRY (R104). -/
def execEndingTimerExpiry (s : State) : Host.Outcome State Fault Refusal :=
  live (fun s => finish (endingExpiry s)) s

end Sys2Proof.Machine
end

