-- ==== Sys2Proof/Machine/DriveEvents.lean ====
section
/-! DEFINITION. The events of drum, carriage and lamp (chapters 2 to 4): drive and carriage faults, the
index mark, the sample position, the timers and switches of the head end. -/

namespace Sys2Proof.Machine

/-! ### Faults -/

/-- With no want of the queue held the fault hold is clear, and the drive serves what it holds (R32). -/
def clearFaultHold (s : State) : State :=
  if s.drive.queueWant.isNone then serve (s.onDrive fun d => { d with faultHold := false }) else s

/-- A drive fault (R32): reported, motor off, fault hold set, then handed to the Calibration Unit and to
the pass as reason DRIVE. -/
def driveFault (k : DrumFault) (s : State) : State :=
  clearFaultHold <| failPass .drive <| calDriveFault <|
    (motorOff (post (.drumFault k) s)).onDrive fun d =>
      { d with faultHold := true, pendingStart := false }

/-- A carriage fault (R44). With no pass in progress the carriage is left UNHOMED. -/
def carriageFault (s : State) : State :=
  let t := post (.drumFault .carriage) s
  match s.sender.pass with
  | none => t.onDrive fun d => { d with carriage := .unhomed, position := none }
  | some _ => failPass .carriage t

/-- A step fault (R42): the line spoiled, the count raised; the third of a pass is a carriage fault. -/
def stepFault (s : State) : State :=
  let t := spoilLine <| s.onDrive fun d =>
    { d with stepWaiting := false, stepFaults := min 3 (d.stepFaults + 1) }
  if s.drive.stepFaults = 2 then carriageFault t else t

/-! ### The index mark (R28, R30, R31) -/

/-- The drum reaches LOCKED at its target speed (R28). -/
def reachLock (sp : Speed) (d : Drive) : Drive :=
  { d with
    drum := .locked
    lockedAt := some sp
    approach := none
    lockCount := 3
    lossCount := 0
    lockTimer := none }

/-- The approach state a drum returns to from LOCKING (R28). -/
def approachState : Option Approach → DrumState
  | some .slew => .slewing
  | some .spin => .spinningUp
  | none => .spinningUp

/-- A measured revolution of an approach at target speed sp (R28). -/
def measureApproach (sp : Speed) (period : Nat) (s : State) : State :=
  if s.drive.drum = .locking then
    if withinPermille 1 sp period then
      if s.drive.lockCount + 1 < 3 then
        s.onDrive fun d => { d with lockCount := d.lockCount + 1 }
      else post (.drum .locked (some sp)) (s.onDrive (reachLock sp))
    else if withinPermille 20 sp period then s.onDrive fun d => { d with lockCount := 0 }
    else
      post (.drum (approachState s.drive.approach) (some sp)) <|
        s.onDrive fun d => { d with drum := approachState d.approach, lockCount := 0 }
  else if withinPermille 20 sp period then
    post (.drum .locking (some sp)) <|
      s.onDrive fun d =>
        { d with drum := .locking, lockCount := if withinPermille 1 sp period then 1 else 0 }
  else s

/-- An index mark in an approach state: the first only opens a revolution; a lock at another speed than
the wanted one is followed by the slew (R28, R35). -/
def approachMark (period : Nat) (s : State) : State :=
  if s.drive.marked then serveDrum (measureApproach (s.drive.target.getD .s60) period s)
  else s.onDrive fun d => { d with marked := true }

/-- The revolution that opens raises sample positions where the drum state that the index-mark event carries is
LOCKED (R31, log entry 19). -/
def openPositions (d : Drive) : Drive :=
  { d with nextPos := if d.drum = .locked then some 0 else none }

/-- The index-mark event as handed to the Scan Unit, the Sender and the Calibration Unit (R31): the
line closed, the Sender's decision and permission, a line begun, the run judged or begun. The closing stands
before the Sender's decision also where that ends scanning: the model's choice (log entry 43). A run begins here
(R77), before the queue's tests at the end of the step: the model's choice too, against the start of a job (log
entry 46), and for a request that the queue raises at this very mark, whose run begins at the next (log entry 55). -/
def handIndex (locked good : Bool) (s : State) : State :=
  let (t, perm) := senderIndex good (s.onScan (closeLine good))
  calIndex locked good (beginLine perm locked t)

/-- The loss count after a revolution in LOCKED (R30). -/
def lossAfter (sp : Speed) (period loss : Nat) : Nat :=
  if withinPermille 10 sp period then 0 else loss + 1

/-- An index mark in LOCKED (R30): the verdict is handed on; at a loss count of 2 the drive fault
follows it, and the revolution that opens raises no positions (R31). Where that verdict is the eighth spoiled one of
a run (R78), the run aborts and the drive takes up the wanted speed (R82, R34) before its fault: the model's choice
(log entry 50). -/
def lockedMark (period : Nat) (s : State) : State :=
  let sp := s.drive.lockedAt.getD .s60
  let loss := lossAfter sp period s.drive.lossCount
  let t := s.onDrive fun d =>
    { d with lossCount := loss, nextPos := if 2 ≤ loss then none else some 0 }
  if 2 ≤ loss then driveFault .lock (handIndex false false t)
  else handIndex true (withinPermille 3 sp period) t

/-- An index mark (R31). The one that reaches LOCKED carries the verdict spoiled: the model's choice (log
entry 41). With the motor off it raises no event (R33) and only ends the revolution (log entry 19). -/
def indexMark (period : Nat) (s : State) : State :=
  if s.drive.drum.approaching then
    let t := (approachMark period s).onDrive openPositions
    handIndex (t.drive.drum == .locked) false t
  else if s.drive.drum = .locked then lockedMark period s
  else s.onDrive fun d => { d with nextPos := none }

/-! ### The sample position (R31) -/

/-- A sample position at the drive: a step not confirmed before position 48 is a step fault (R42). -/
def driveSample (p : Nat) (s : State) : State :=
  let t := s.onDrive fun d => { d with nextPos := some (p + 1) }
  if p = Config.pictureStart ∧ s.drive.stepWaiting then stepFault t else t

/-- A sample position at the Scan Unit, with the failure REFERENCE of a twelfth invalid reference in a
row (R56). -/
def scanPosition (p x : Nat) (s : State) : State :=
  let t := s.onScan (scanSample p x)
  if t.scan.referenceFailed && !s.scan.referenceFailed then failPass .reference t else t

/-- A sample position (R31): raised in a revolution that opened LOCKED, each position once and in rising
order (log entry 8). At position 48 the step fault (R42) comes before the Sender's take (R66), so that a third one
leaves no take to be made: the model's choice (log entry 45). -/
def samplePosition (p x : Nat) (s : State) : State :=
  match s.drive.nextPos with
  | none => s
  | some q =>
    if q ≤ p ∧ p < Config.positions then
      senderSample p (calSample p x (scanPosition p x (driveSample p s)))
    else s

/-! ### Timers, switches and sensors -/

/-- The lock timer runs out (R29). -/
def lockTimeout (s : State) : State :=
  match s.drive.lockTimer with
  | none => s
  | some m => driveFault .timeout (advanceTo m s)

/-- One second without a tachometer pulse (R33). -/
def tachometerSilence (s : State) : State :=
  if s.drive.drum = .coasting then
    post (.drum .parked none) (s.onDrive fun d => { d with drum := .parked })
  else s

/-- The oldest spin-up entry reaches 15 minutes (R37): a pending start is tested afresh, or dropped. -/
def spinUpEntryExpiry (s : State) : State :=
  match s.drive.spinUps with
  | [] => s
  | oldest :: rest =>
    let t := advanceTo (oldest + Config.spinUpAge) s
    if s.drive.pendingStart then
      serveDrum (t.onDrive fun d => { d with spinUps := rest, pendingStart := false })
    else t

/-- The idle-hold timer runs out with no want held (R38). -/
def idleHoldExpiry (s : State) : State :=
  match s.drive.idleTimer with
  | none => s
  | some m => if s.drive.wanted.isNone then idleExpire (advanceTo m s) else s

/-- The home switch (R41): it acts in RETURNING only. That the step pitch stays as it was is the model's
choice (log entry 42). -/
def homeSwitch (s : State) : State :=
  if s.drive.carriage = .returning then
    s.onDrive fun d => { d with carriage := .home, position := some 0, returnTimer := none }
  else s

/-- The return timer runs out before home (R41). -/
def returnTimeout (s : State) : State :=
  match s.drive.returnTimer with
  | none => s
  | some m =>
    carriageFault <| (advanceTo m s).onDrive fun d =>
      { d with carriage := .unhomed, position := none, returnTimer := none }

/-- The step-sense input (R42): it confirms a step awaiting confirmation. -/
def stepSense (s : State) : State := s.onDrive fun d => { d with stepWaiting := false }

/-- The end switch (R43). -/
def endSwitch (s : State) : State :=
  carriageFault <| s.onDrive fun d =>
    { d with carriage := .unhomed, position := none, stepWaiting := false, returnTimer := none }

/-- The warm-up timer runs out in WARMING (R45). -/
def warmUpExpiry (s : State) : State :=
  match s.drive.lamp, s.drive.warmTimer with
  | .warming, some m =>
    post .lampReady ((advanceTo m s).onDrive fun d => { d with lamp := .ready, warmTimer := none })
  | _, _ => s

/-- The lamp current leaves its limits (R46): watched in WARMING and READY. -/
def lampCurrentFault (s : State) : State :=
  if s.drive.lamp.lit then
    abortRun <| failPass .lamp <| post .lampFault <|
      s.onDrive fun d => { d with lamp := .fault, warmTimer := none }
  else s

/-- A reading as the drive takes it: 0 to 99 (R48). -/
def clampTemp (t : Int) : Nat := min t.toNat 99

/-- A temperature reading (R48, R71, R86). -/
def temperatureReading (t : Int) (s : State) : State :=
  let u := advanceTo s.drive.nextTemp s
  calTemperature (clampTemp t) <| u.onDrive fun d =>
    { d with temp := clampTemp t, nextTemp := u.now + Config.tempPeriod }

/-! ### The rows -/

/-- INDEX_MARK (R31). -/
def execIndexMark (period : Nat) (s : State) : Host.Outcome State Fault Refusal :=
  live (fun s => finish (indexMark period s)) s

/-- SAMPLE_POSITION (R31). -/
def execSamplePosition (p : Nat) (x : BitVec 12) (s : State) : Host.Outcome State Fault Refusal :=
  live (fun s => finish (samplePosition p x.toNat s)) s

/-- LOCK_TIMER_EXPIRY (R29). -/
def execLockTimerExpiry (s : State) : Host.Outcome State Fault Refusal :=
  live (fun s => finish (lockTimeout s)) s

/-- TACHOMETER_SILENCE (R33). The drum condition is missing before and after, so no test follows. -/
def execTachometerSilence (s : State) : Host.Outcome State Fault Refusal :=
  live (fun s => pump (tachometerSilence s)) s

/-- SPIN_UP_ENTRY_EXPIRY (R37). -/
def execSpinUpEntryExpiry (s : State) : Host.Outcome State Fault Refusal :=
  live (fun s => finish (spinUpEntryExpiry s)) s

/-- IDLE_HOLD_EXPIRY (R38). With no want held no job is RELEASED, so no test follows. -/
def execIdleHoldExpiry (s : State) : Host.Outcome State Fault Refusal :=
  live (fun s => pump (idleHoldExpiry s)) s

/-- HOME_SWITCH (R41). -/
def execHomeSwitch (s : State) : Host.Outcome State Fault Refusal := live homeSwitch s

/-- RETURN_TIMER_EXPIRY (R41). -/
def execReturnTimerExpiry (s : State) : Host.Outcome State Fault Refusal :=
  live (fun s => finish (returnTimeout s)) s

/-- STEP_SENSE (R42). -/
def execStepSense (s : State) : Host.Outcome State Fault Refusal := live stepSense s

/-- END_SWITCH (R43). -/
def execEndSwitch (s : State) : Host.Outcome State Fault Refusal :=
  live (fun s => finish (endSwitch s)) s

/-- WARM_UP_EXPIRY (R45). -/
def execWarmUpExpiry (s : State) : Host.Outcome State Fault Refusal :=
  live (fun s => finish (warmUpExpiry s)) s

/-- LAMP_CURRENT_FAULT (R46). -/
def execLampCurrentFault (s : State) : Host.Outcome State Fault Refusal :=
  live (fun s => finish (lampCurrentFault s)) s

/-- TEMPERATURE_READING (R48). -/
def execTemperatureReading (t : Int) (s : State) : Host.Outcome State Fault Refusal :=
  live (fun s => finish (temperatureReading t s)) s

end Sys2Proof.Machine
end

