-- ==== Sys2Proof/Machine/JobRequests.lean ====
section
/-! DEFINITION. The requests of the Transmission Queue (chapter 1, and HOLD, GO and KILL of chapter 7):
each gives the state after the request and its reply; a refused one gives the state unchanged. -/

namespace Sys2Proof.Machine

/-! ### QUEUE (R1 to R3) -/

/-- The values of a QUEUE line whose words have their forms (check 1 of R2). -/
structure QueueForm where
  slug : Text
  priority : Priority
  lines : Nat
  pitch : Nat
  speed : Nat
  curve : Nat
  stations : List Nat
  time : Option (Nat × Nat × Nat)
  deriving DecidableEq, Repr

/-- The keys of a QUEUE line (section 1.2). -/
def queueKeys : List Text :=
  ["SLUG".toList, "PRI".toList, "LINES".toList, "PITCH".toList, "SPEED".toList, "CURVE".toList,
   "STN".toList, "AT".toList]

/-- A priority by its word. -/
def priority? (w : Text) : Option Priority :=
  if w = "ROUTINE".toList then some .routine
  else if w = "URGENT".toList then some .urgent
  else if w = "FLASH".toList then some .flash
  else none

/-- A value that may be absent: its default, or the value in its form. -/
def optionalValue {α : Type} (w : Option Text) (absent : α) (form : Text → Option α) : Option α :=
  match w with
  | none => some absent
  | some v => form v

/-- Check 1 of R2: the keys, each once, the required ones present, every value in its form. -/
def queueForm? (args : List Text) : Option QueueForm := do
  let kvs ← allSome (args.map keyValue?)
  if kvs.all (fun p => queueKeys.contains p.1) && decide (kvs.map (·.1)).Nodup then
    let slug ← (lookupKey "SLUG".toList kvs).bind (name? 10)
    let priority ← optionalValue (lookupKey "PRI".toList kvs) .routine priority?
    let lines ← (lookupKey "LINES".toList kvs).bind number?
    let pitch ← (lookupKey "PITCH".toList kvs).bind number?
    let speed ← (lookupKey "SPEED".toList kvs).bind number?
    let curve ← optionalValue (lookupKey "CURVE".toList kvs) 0 number?
    let stations ← (lookupKey "STN".toList kvs).bind numbers?
    let time ← optionalValue (lookupKey "AT".toList kvs) none (fun v => (time? v).map some)
    return { slug, priority, lines, pitch, speed, curve, stations, time }
  else none

/-- A pitch by its number. -/
def pitch? (n : Nat) : Option Pitch :=
  if n = 100 then some .p100 else if n = 125 then some .p125 else if n = 150 then some .p150 else none

/-- A speed by its number. -/
def speed? (n : Nat) : Option Speed :=
  if n = 60 then some .s60 else if n = 90 then some .s90 else if n = 120 then some .s120 else none

/-- A number of a station, 1 to 16. -/
def stationOk (n : Nat) : Bool := decide (1 ≤ n) && decide (n ≤ 16)

/-- Check 2 of R2 on the values beside pitch and speed. -/
def queueRange (f : QueueForm) : Bool :=
  decide (f.curve ≤ 3) && decide (50 ≤ f.lines) && decide (f.lines ≤ 11 * f.pitch) &&
    f.stations.all stationOk &&
    match f.time with
    | none => true
    | some t => timeOk t

/-- The release time of a job queued with a time of day (R1). -/
def releaseTime (c : DayTime) (sec : Nat) : DayTime :=
  { day := if c.sec ≤ sec then c.day else nextDay c.day, sec := sec }

/-- Checks 3 to 7 of R2: the first that fails. -/
def queueRefusal (f : QueueForm) (s : State) : Option Code :=
  if !f.stations.all s.defined then some .range
  else if ¬ f.stations.Nodup then some .duplicate
  else if f.time.isSome && s.backup.clock.isNone then some .state
  else if s.queue.jobs.any (fun j => j.slug == f.slug) then some .duplicate
  else if Config.queueCap ≤ s.queue.jobs.length then some .full
  else none

/-- The record of a job queued now (R1). -/
def newJob (n : Nat) (f : QueueForm) (p : Pitch) (v : Speed) (clock : Option DayTime) : Job :=
  { number := n
    slug := f.slug
    priority := f.priority
    lines := f.lines
    pitch := p
    speed := v
    curve := f.curve
    stations := ascending f.stations
    release := f.time.bind fun t => clock.map fun c => releaseTime c (secOfDay t)
    passNo := 1
    state := .queued
    pendingTrigger := false
    calTried := false }

/-- The number drawn for a new job (R3). -/
def State.drawnNumber (s : State) : Nat := freeNumber s 999 s.backup.counter

/-- A job joins the queue as the latest arrival, and the counter moves past its number (R1, R3). -/
def enqueue (j : Job) (s : State) : State :=
  (s.onQueue fun q => { q with jobs := q.jobs ++ [j] }).onBackup fun b =>
    { b with counter := nextNumber j.number }

/-- QUEUE (R1 to R3). -/
def requestQueue (args : List Text) (s : State) : State × Reply :=
  match queueForm? args with
  | none => (s, .no .form)
  | some f =>
    match pitch? f.pitch, speed? f.speed with
    | some p, some v =>
      if queueRange f then
        match queueRefusal f s with
        | some c => (s, .no c)
        | none => (enqueue (newJob s.drawnNumber f p v s.backup.clock) s, .queue s.drawnNumber)
      else (s, .no .range)
    | _, _ => (s, .no .range)

/-! ### MOUNT, START, LIST (R5, R9, R12) -/

/-- Check 4 of R9. -/
def State.mayMount (s : State) (j : Job) : Bool :=
  !s.coverOpen && j.state == .queued &&
    (s.queue.load == .unbound ||
      match s.mountedJob with
      | none => false
      | some m => m.state == .mounted)

/-- The MOUNTED job returns to QUEUED, its flag and its place kept (R9). -/
def unmount (s : State) : State :=
  s.onQueue fun q =>
    { q with jobs := q.jobs.map fun j => if j.state = .mounted then { j with state := .queued } else j }

/-- The job of a number is RELEASED. -/
def State.isReleased (s : State) (n : Nat) : Bool :=
  match s.findJob n with
  | none => false
  | some j => j.state == .released

/-- MOUNT (R9). The reply says what the binding check did; the start test follows. -/
def requestMount (args : List Text) (s : State) : State × Reply :=
  match jobArg args s with
  | .error c => (s, .no c)
  | .ok j =>
    if s.mayMount j then
      let t := bindJob j (unmount s)
      (conclude t, .mount j.number (t.isReleased j.number))
    else (s, .no .state)

/-- START (R12). -/
def requestStart (args : List Text) (s : State) : State × Reply :=
  match jobArg args s with
  | .error c => (s, .no c)
  | .ok j =>
    match j.state with
    | .queued =>
      (updJob j.number (fun j => { j with pendingTrigger := true }) s, .start j.number false)
    | .mounted =>
      if s.mayRelease j then (conclude (release .start j s), .start j.number true)
      else (s, .no .state)
    | .released => (s, .no .state)
    | .active => (s, .no .state)
    | .finished => (s, .no .state)

/-- LIST (R5). -/
def requestList (args : List Text) (s : State) : State × Reply :=
  if args.isEmpty then
    (s, .list ((queueOrder s.queue.jobs).map fun j => (j.number, j.slug, j.priority, j.state)))
  else (s, .no .form)

/-! ### HOLD, GO, KILL (R23, R135, R138, R145) -/

/-- HOLD of a job (R23, R135): refused, or the state with HOLD in the set and whether it is paused. -/
def holdJob (j : Job) (s : State) : Except Code (Bool × State) :=
  if j.state = .active then
    match s.sender.pass with
    | none => .error .state
    | some p =>
      match holdAnswer s.sender.circ p with
      | .error c => .error c
      | .ok paused => .ok (paused, addHold s)
  else .error .state

/-- GO of a job (R23, R138). -/
def goJob (j : Job) (s : State) : Except Code State :=
  if j.state = .active then
    match s.sender.pass with
    | none => .error .state
    | some p => if p.holdReason then .ok (removeHold s) else .error .state
  else .error .state

/-- KILL of the pass of an ACTIVE job (R145). -/
def killPass (s : State) : Except Code State :=
  match s.sender.pass with
  | none => .error .state
  | some p =>
    match s.stage with
    | .idle => .error .state
    | .unsent => .ok (terminate .killed none false s)
    | .sending => .ok (terminate .killed none (!p.breakReason) s)
    | .sent => .error .late
    | .killing => .error .late

/-- KILL of a job (R145): refused, or the state after it and whether the job was removed unsent. -/
def killJob (j : Job) (s : State) : Except Code (Bool × State) :=
  match j.state with
  | .queued => .ok (true, leaveQueue j s)
  | .mounted => .ok (true, leaveQueue j s)
  | .released => .ok (true, leaveQueue j s)
  | .active => (killPass s).map fun t => (false, t)
  | .finished => .error .state

/-- HOLD (R135). -/
def requestHold (args : List Text) (s : State) : State × Reply :=
  match jobArg args s with
  | .error c => (s, .no c)
  | .ok j =>
    match holdJob j s with
    | .error c => (s, .no c)
    | .ok (paused, t) => (t, .hold j.number paused)

/-- GO (R138). -/
def requestGo (args : List Text) (s : State) : State × Reply :=
  match jobArg args s with
  | .error c => (s, .no c)
  | .ok j =>
    match goJob j s with
    | .error c => (s, .no c)
    | .ok t => (conclude t, .go j.number)

/-- KILL (R145). -/
def requestKill (args : List Text) (s : State) : State × Reply :=
  match jobArg args s with
  | .error c => (s, .no c)
  | .ok j =>
    match killJob j s with
    | .error c => (s, .no c)
    | .ok (removed, t) => (conclude t, .kill j.number removed)

/-! ### REPEAT (R22) -/

/-- Check 1 of R22: a decimal number and one STN word. -/
def repeatForm? (args : List Text) : Option (Nat × List Nat) :=
  match args with
  | [w, v] =>
    match number? w, (valueOf? "STN".toList v).bind numbers? with
    | some n, some ns => some (n, ns)
    | _, _ => none
  | _ => none

/-- Checks 4 to 7 of R22: the first that fails. -/
def repeatRefusal (j : Job) (ns : List Nat) (s : State) : Option Code :=
  if j.state ≠ .finished then some .state
  else if !ns.all (fun n => stationOk n && s.defined n) then some .range
  else if ¬ ns.Nodup then some .duplicate
  else if 4 ≤ j.passNo then some .full
  else none

/-- A FINISHED job becomes RELEASED for another pass (R22). -/
def repeatJob (j : Job) (ns : List Nat) (s : State) : State :=
  release .repeatPass j <|
    updJob j.number (fun j => { j with passNo := j.passNo + 1, stations := ascending ns }) s

/-- REPEAT (R22). -/
def requestRepeat (args : List Text) (s : State) : State × Reply :=
  match repeatForm? args with
  | none => (s, .no .form)
  | some (n, ns) =>
    if 1 ≤ n ∧ n ≤ 999 then
      match s.findJob n with
      | none => (s, .no .unknown)
      | some j =>
        match repeatRefusal j ns s with
        | some c => (s, .no c)
        | none => (conclude (repeatJob j ns s), .repeatPass n (j.passNo + 1))
    else (s, .no .range)

end Sys2Proof.Machine
end

