-- ==== Sys2Proof/Machine/PanelEvents.lean ====
section
/-! DEFINITION. The cover and the panel keys (chapter 1): COVER_CLOSE, COVER_OPEN, SEND, HOLD, STOP. -/

namespace Sys2Proof.Machine

/-! ### The cover -/

/-- The binding at the cover-close event (R7). -/
def bindHead (s : State) : State :=
  match s.headJob with
  | some j => bindJob j s
  | none => post .loadUnbound (s.onQueue fun q => { q with load := .unbound })

/-- The cover closes (R7): it arrives from the load state OPEN; held wants are then served (R39). That the queue
binds, and releases with its want, before the drive serves a calibration want held through the open cover is the
model's choice (log entry 53). -/
def coverClose (s : State) : State := if s.coverOpen then serve (bindHead s) else s

/-- The cover opened on an ACTIVE job (R11, R72): the job leaves, its pass is detached, scanning ends and
COVER is handed to the Sender. With an IDLE of 0 the want withdrawn at the leaving ends idle hold at once, before
the pass ends: the model's choice (log entry 49). -/
def coverOnActive (j : Job) (s : State) : State :=
  failPass .cover <| scanEnd <| (leaveQueue j s).onPass fun p => { p with detached := true }

/-- The mounted job at the cover-open event, the load state already OPEN (R10). A want withdrawn here is withdrawn
before the drive takes the event (R39); with an IDLE of 0 idle hold then ends at once (R38), the lamp first: the
model's choice (log entry 49). -/
def unbind (j : Job) (s : State) : State :=
  match j.state with
  | .queued => s
  | .mounted => updJob j.number (fun j => { j with state := .queued }) s
  | .released =>
    withdrawQueueWant <|
      (updJob j.number (fun j => { j with state := .queued, pendingTrigger := true }) s).onQueue
        fun q => { q with missing := [] }
  | .active => coverOnActive j s
  | .finished => leaveQueue j s

/-- The drive at the cover-open event (R39, R43, R47, R82): motor off, a run aborted, lamp off, pending
start and idle hold dropped, a moving carriage stopped. -/
def driveCoverOpen (s : State) : State :=
  (lampOff (abortRun (motorOff s))).onDrive fun d =>
    { haltCarriage d with pendingStart := false, idleTimer := none }

/-- The cover opens (R10): it arrives from the load states UNBOUND and BOUND. -/
def coverOpens (s : State) : State :=
  if s.coverOpen then s
  else
    let t := post .loadOpen (s.onQueue fun q => { q with load := .coverOpen })
    driveCoverOpen <|
      match s.mountedJob with
      | none => t
      | some j => unbind j t

/-! ### The keys (R13, R23) -/

/-- The SEND key (R13). -/
def sendKey (s : State) : State :=
  match s.mountedJob with
  | none => s
  | some j =>
    match j.state with
    | .mounted => if s.mayRelease j then release .key j s else s
    | .active =>
      match goJob j s with
      | .error _ => s
      | .ok t => t
    | .queued => s
    | .released => s
    | .finished => s

/-- The HOLD key acts as HOLD of the mounted job (R23). -/
def holdKey (s : State) : State :=
  match s.mountedJob with
  | none => s
  | some j =>
    match holdJob j s with
    | .error _ => s
    | .ok (_, t) => t

/-- The STOP key acts as KILL of the mounted job (R23). -/
def stopKey (s : State) : State :=
  match s.mountedJob with
  | none => s
  | some j =>
    match killJob j s with
    | .error _ => s
    | .ok (_, t) => t

/-! ### The rows -/

/-- COVER_CLOSE (R7). -/
def execCoverClose (s : State) : Host.Outcome State Fault Refusal :=
  live (fun s => finish (coverClose s)) s

/-- COVER_OPEN (R10). -/
def execCoverOpen (s : State) : Host.Outcome State Fault Refusal :=
  live (fun s => finish (coverOpens s)) s

/-- SEND_KEY (R13). -/
def execSendKey (s : State) : Host.Outcome State Fault Refusal :=
  live (fun s => finish (sendKey s)) s

/-- HOLD_KEY (R23, R135). A job is ACTIVE, so no start test follows. -/
def execHoldKey (s : State) : Host.Outcome State Fault Refusal :=
  live (fun s => pump (holdKey s)) s

/-- STOP_KEY (R23, R145). -/
def execStopKey (s : State) : Host.Outcome State Fault Refusal :=
  live (fun s => finish (stopKey s)) s

end Sys2Proof.Machine
end

