-- ==== Sys2Proof/Machine/ResetOps.lean ====
section
/-! DEFINITION. What each block does at `RESET` (R188), in the order in which the blocks apply it. -/

namespace Sys2Proof.Machine

/-- The Link Unit at RESET (R181). -/
def resetLink (s : State) : State :=
  s.onLink fun l => { emptyBuffer l with reports := [], overflow := false, paused := false }

/-- The queue at RESET (R25): emptied, the load state UNBOUND or OPEN; a pass in progress has no job
left (R21). -/
def resetQueue (s : State) : State :=
  (s.onQueue fun q =>
      { q with
        jobs := []
        load := if q.load = .coverOpen then .coverOpen else .unbound
        missing := [] }).onPass fun p => { p with detached := true }

/-- The drive at RESET (R47, R50): motor and lamp off, wants, pending start and timers dropped; the
spin-up list and the temperature period are kept. -/
def resetDrive (s : State) : State :=
  (motorOff s).onDrive fun d =>
    { haltCarriage d with
      faultHold := false
      queueWant := none
      calWant := none
      pendingStart := false
      idleTimer := none
      stepFaults := 0
      lamp := .off
      warmTimer := none }

/-- The calibration state that RESET leaves of a state (R87). -/
def CalState.afterReset : CalState → CalState
  | .fresh => .stale
  | .none => .none
  | .running => .running
  | .stale => .stale
  | .failed => .failed

/-- The Calibration Unit at RESET (R87). -/
def resetCal (s : State) : State :=
  s.onCal fun c =>
    match c.run with
    | none => { c with state := c.state.afterReset, request := false }
    | some r =>
      { c with state := r.savedState.afterReset, gain := r.savedStep, request := false, run := none }

/-- The outcome and reasons a pass takes at RESET (R148). -/
def Pass.resetReasons (p : Pass) : Pass :=
  match p.outcome with
  | none => { p with outcome := some .failed, reason := some .reset }
  | some _ => { p with secondary := some (p.secondary.getD .reset) }

/-- The Scan Unit and the Sender at RESET (R72, R74, R133, R148): the pass ends at once with no signal. -/
def resetSender (s : State) : State := closePass (scanEnd (s.onPass Pass.resetReasons))

/-- The Circuit Unit at RESET (R88, R108). -/
def resetCircuit (s : State) : State :=
  (zeroCounts (stopRounds s)).onCircuit fun c => { c with garble := 0 }

/-- Every OPEN record closes (R165, R166). -/
def closeAll (s : State) : State :=
  s.onReceipts fun c => { c with log := c.log.map fun r => { r with isOpen := false } }

/-- The printer's state as the paper sense gives it (R165, R166). -/
def printerFrom (paper : Bool) : PrinterState := if paper then .ready else .paperOut

/-- The Receipt Unit at RESET (R165), after the pass was completed. -/
def resetReceipts (s : State) : State :=
  let t := closeAll s
  let u := if t.receipts.printer = .printing then cutSlip t else t
  u.onReceipts fun c => { c with printer := printerFrom c.paperPresent, printing := none }

/-- RESET as all blocks apply it (R188); the printer then begins its oldest entry (R165). -/
def resetAll (s : State) : State :=
  conclude <| resetReceipts <| resetCircuit <| resetSender <| resetCal <| resetDrive <| resetQueue <|
    resetLink s

end Sys2Proof.Machine
end

