-- ==== Sys2Proof/Machine/PowerEvents.lean ====
section
/-! DEFINITION. The Backup Domain and the supply (chapter 10): the day clock's second, the battery
monitor, the retention latch, power-up and the loss of main power. -/

namespace Sys2Proof.Machine

/-! ### The day clock (R184) and the release test (R14) -/

/-- The clock one second on (R184). -/
def tickClock (c : DayTime) : DayTime :=
  if c.sec < 86399 then { c with sec := c.sec + 1 } else { day := nextDay c.day, sec := 0 }

/-- The second of a set clock ends: the clock advances and begins its next second. -/
def advanceClock (c : DayTime) (s : State) : State :=
  (advanceTo s.backup.secondEnds s).onBackup fun b =>
    { b with clock := some (tickClock c), secondEnds := b.secondEnds + 1000 }

/-- The release test of the second event (R14). -/
def releaseTest (s : State) : State :=
  match s.mountedJob with
  | none => s
  | some j => if j.state = .mounted ∧ s.timeReached j then release .time j s else s

/-- A second boundary of the day clock (R14, R184). Without main power the clock runs on the backup
supply while the latch is clear, and no block takes the event. -/
def secondEvent (s : State) : State :=
  match s.backup.clock with
  | none => s
  | some c =>
    if s.powered then finish (releaseTest (advanceClock c s))
    else if s.backup.latch then s
    else advanceClock c s

/-! ### The battery (R182) -/

/-- The report of a battery reading, where it has one (R182). -/
def postBattery (b : Battery) (s : State) : State :=
  match b with
  | .good => s
  | .low => post .batteryLow s
  | .failed => post .batteryFailed s

/-- A change of the battery monitor's reading with main power present (R182). -/
def batteryChange (b : Battery) (s : State) : State :=
  if b = s.backup.battery then s
  else postBattery b (s.onBackup fun x => { x with battery := b })

/-! ### Power-up (R166, R187) -/

/-- The station results of an interrupted pass: station numbers only (R152, R166). -/
def bareResults (stations : List Nat) : List StationResult :=
  stations.map fun n => { station := n, name := none, final := none, noise := none }

/-- A pass in progress as power-up closes it (R166 step 1). -/
def interruptPass (clock : Option DayTime) (copies : Nat) (e : PassEntry) : PassEntry :=
  if e.inProgress then
    { e with
      close := some
        { stamp := clock
          outcome := .interrupted
          reason := some .power
          secondary := none
          counts := none
          slip := slipFor copies
          results := bareResults e.stations } }
  else e

/-- A pass whose slip was PRINTING returns to PENDING (R166 step 2). -/
def unprintPass (e : PassEntry) : PassEntry :=
  { e with close := e.close.map fun c => { c with slip := if c.slip = .printing then .pending else c.slip } }

/-- The slip entries that the interrupted passes of a record queue (R156, R166). -/
def interruptedEntries (copies : Nat) (r : Record) : List SlipEntry :=
  (r.passes.filter PassEntry.inProgress).flatMap fun e => slipEntries copies r.job e.number

/-- The pass of an entry has its slip PRINTING. -/
def isPrinting (log : List Record) (e : SlipEntry) : Bool :=
  log.any fun r => r.job == e.job && r.passes.any fun q =>
    q.number == e.pass &&
      match q.close with
      | none => false
      | some c => c.slip == .printing

/-- What the Receipt Unit does with a kept log and slip queue at power-up (R166 steps 1 to 3). -/
def settleLog (clock : Option DayTime) (copies : Nat) (c : Receipts) : Receipts :=
  { c with
    log := c.log.map fun r =>
      { r with
        isOpen := false
        passes := r.passes.map fun e => unprintPass (interruptPass clock copies e) }
    slips :=
      (c.slips.map fun e => if isPrinting c.log e then { e with reprint := true } else e) ++
        c.log.flatMap (interruptedEntries copies) }

/-- The receipt log and slip queue at power-up (R187 step 4). -/
def powerReceipts (lost : Bool) (clock : Option DayTime) (c : Receipts) : Receipts :=
  if lost then { c with log := [], slips := [] } else settleLog clock Settings.default.copies c

/-- The working blocks of the part at their power-up values (R187 steps 1 and 6); the backup domain, the
log and the slip queue are left as they stand. -/
def freshBlocks (pins : PowerPins) (s : State) : State :=
  { s with
    link := Link.fresh pins.baud
    settings := Settings.default
    queue := Queue.fresh pins.coverClosed
    drive := Drive.fresh (clampTemp pins.temperature) s.now
    cal := Calib.fresh
    scan := Scan.fresh
    circuit := Circuit.fresh pins.tonePresent s.now
    sender := Sender.fresh
    receipts :=
      { s.receipts with
        printer := printerFrom pins.paperPresent
        paperPresent := pins.paperPresent
        printing := none } }

/-- The backup domain's clock, counter and latch at power-up (R183, R187 steps 4 and 5). -/
def powerBackup (lost : Bool) (b : Backup) : Backup :=
  if lost then { b with clock := none, counter := 1, latch := false } else { b with latch := false }

/-- Main power comes up (R187). -/
def powerUp (pins : PowerPins) (s : State) : State :=
  let lost := s.backup.latch
  let t := freshBlocks pins { s with powered := true }
  let u := postBattery pins.battery (post (.power (!lost)) t)
  let v := (u.onReceipts (powerReceipts lost s.backup.clock)).onBackup fun b =>
    { powerBackup lost b with battery := pins.battery }
  finish v

/-! ### Loss of main power (R183) -/

/-- The pins as the model shows the working state without main power (log entry 5). -/
def darkPins (s : State) : PowerPins :=
  { baud := s.link.baud
    coverClosed := !s.coverOpen
    battery := s.backup.battery
    paperPresent := s.receipts.paperPresent
    tonePresent := false
    temperature := 0 }

/-- Main power fails (R183): the working state is lost, the backup domain runs on. -/
def mainPowerLoss (s : State) : State :=
  if s.powered then freshBlocks (darkPins s) { s with powered := false } else s

/-! ### The rows -/

/-- SECOND_EVENT (R14, R184). -/
def execSecondEvent (s : State) : Host.Outcome State Fault Refusal := .next (secondEvent s)

/-- BATTERY_CHANGE (R182): the battery state follows the monitor with and without main power, and is reported
with it. -/
def execBatteryChange (b : Battery) (s : State) : Host.Outcome State Fault Refusal :=
  .next (if s.powered then pump (batteryChange b s) else s.onBackup fun x => { x with battery := b })

/-- RETENTION_LATCH_SET (R183): not set while main power is present. -/
def execRetentionLatchSet (s : State) : Host.Outcome State Fault Refusal :=
  .next (if s.powered then s else s.onBackup fun b => { b with latch := true })

/-- POWER_UP (R187). -/
def execPowerUp (pins : PowerPins) (s : State) : Host.Outcome State Fault Refusal :=
  .next (powerUp pins s)

/-- MAIN_POWER_LOSS (R183). -/
def execMainPowerLoss (s : State) : Host.Outcome State Fault Refusal := .next (mainPowerLoss s)

end Sys2Proof.Machine
end

