-- ==== Sys2Proof/Machine/PrinterEvents.lean ====
section
/-! DEFINITION. The events of the slip printer (section 8.6). -/

namespace Sys2Proof.Machine

/-- The paper runs out (R163): a slip being printed is cut; READY becomes PAPER_OUT. -/
def paperOut (s : State) : State :=
  let out (t : State) : State :=
    post .paperOut (t.onReceipts fun c => { c with printer := .paperOut, paperPresent := false })
  match s.receipts.printer with
  | .printing => out (cutSlip s)
  | .ready => out s
  | .paperOut => s

/-- Paper is loaded (R163): PAPER_OUT becomes READY, and the oldest entry begins (R162). -/
def paperIn (s : State) : State :=
  match s.receipts.printer with
  | .paperOut =>
    kick (post .paperIn (s.onReceipts fun c => { c with printer := .ready, paperPresent := true }))
  | .ready => s
  | .printing => s

/-- SLIP_LINE_PRINTED (R162). -/
def execSlipLinePrinted (s : State) : Host.Outcome State Fault Refusal :=
  live (fun s => finish (slipLineDone s)) s

/-- PAPER_OUT (R163). No record changes its reclaimability, so no start test follows. -/
def execPaperOut (s : State) : Host.Outcome State Fault Refusal := live (fun s => pump (paperOut s)) s

/-- PAPER_IN (R163). -/
def execPaperIn (s : State) : Host.Outcome State Fault Refusal := live (fun s => pump (paperIn s)) s

end Sys2Proof.Machine
end

