-- ==== Sys2Proof/Machine/SettingsRequests.lean ====
section
/-! DEFINITION. The settings store and its requests SET and GET (section 9.6). -/

namespace Sys2Proof.Machine

/-- The nineteen keys, in the order of the settings table. -/
def keyTable : List Key :=
  [.white, .black, .phase, .rephase, .answer, .answerMax, .slots, .silence, .gather, .idle, .calDrift,
   .holdMax, .breakMax, .copies, .progress, .bureau, .temp, .gain, .version]

/-- A key by its word. -/
def key? (w : Text) : Option Key := keyTable.find? fun k => k.text == w

/-- The keys a pass copies (R177, R178). -/
def Key.isGuarded : Key → Bool
  | .white | .black | .phase | .rephase | .answer | .answerMax | .slots | .silence | .gather => true
  | .idle | .calDrift | .holdMax | .breakMax | .copies | .progress | .bureau => false
  | .temp | .gain | .version => false

/-- The keys the newsroom computer may only read. -/
def Key.isReadOnly : Key → Bool
  | .temp | .gain | .version => true
  | .white | .black | .phase | .rephase | .answer | .answerMax | .slots | .silence | .gather => false
  | .idle | .calDrift | .holdMax | .breakMax | .copies | .progress | .bureau => false

/-- The range of a numeric key (stage 4 of R177); the other keys take any value there. -/
def Key.inRange (k : Key) (n : Nat) : Bool :=
  match k with
  | .white => decide (1000 ≤ n) && decide (n ≤ 3000)
  | .black => decide (1000 ≤ n) && decide (n ≤ 3000)
  | .phase => decide (10 ≤ n) && decide (n ≤ 40)
  | .rephase => decide (4 ≤ n) && decide (n ≤ 20)
  | .answer => decide (1 ≤ n) && decide (n ≤ 4)
  | .answerMax => decide (3 ≤ n) && decide (n ≤ 12)
  | .slots => decide (2 ≤ n) && decide (n ≤ 16)
  | .silence => decide (3 ≤ n) && decide (n ≤ 12)
  | .gather => decide (2 ≤ n) && decide (n ≤ 6)
  | .idle => decide (n ≤ 600)
  | .calDrift => decide (2 ≤ n) && decide (n ≤ 20)
  | .holdMax => decide (1 ≤ n) && decide (n ≤ 30)
  | .breakMax => decide (1 ≤ n) && decide (n ≤ 30)
  | .copies => decide (n ≤ 3)
  | .progress => n == 0 || (decide (10 ≤ n) && decide (n ≤ 500))
  | .bureau => true
  | .temp => true
  | .gain => true
  | .version => true

/-- The number a numeric key is set to. -/
def Settings.putNum (k : Key) (n : Nat) (x : Settings) : Settings :=
  match k with
  | .white => { x with guarded := { x.guarded with white := n } }
  | .black => { x with guarded := { x.guarded with black := n } }
  | .phase => { x with guarded := { x.guarded with phase := n } }
  | .rephase => { x with guarded := { x.guarded with rephase := n } }
  | .answer => { x with guarded := { x.guarded with answer := n } }
  | .answerMax => { x with guarded := { x.guarded with answerMax := n } }
  | .slots => { x with guarded := { x.guarded with slots := n } }
  | .silence => { x with guarded := { x.guarded with silence := n } }
  | .gather => { x with guarded := { x.guarded with gather := n } }
  | .idle => { x with idle := n }
  | .calDrift => { x with calDrift := n }
  | .holdMax => { x with holdMax := n }
  | .breakMax => { x with breakMax := n }
  | .copies => { x with copies := n }
  | .progress => { x with progress := n }
  | .bureau => x
  | .temp => x
  | .gain => x
  | .version => x

/-- The value stored under a key, or read for it (R176, R179). -/
def State.keyValue (s : State) : Key → KeyValue
  | .white => .num s.settings.guarded.white
  | .black => .num s.settings.guarded.black
  | .phase => .num s.settings.guarded.phase
  | .rephase => .num s.settings.guarded.rephase
  | .answer => .num s.settings.guarded.answer
  | .answerMax => .num s.settings.guarded.answerMax
  | .slots => .num s.settings.guarded.slots
  | .silence => .num s.settings.guarded.silence
  | .gather => .num s.settings.guarded.gather
  | .idle => .num s.settings.idle
  | .calDrift => .num s.settings.calDrift
  | .holdMax => .num s.settings.holdMax
  | .breakMax => .num s.settings.breakMax
  | .copies => .num s.settings.copies
  | .progress => .num s.settings.progress
  | .bureau => .word s.settings.bureau
  | .temp => .num s.drive.temp
  | .gain => .num s.cal.gain
  | .version => .word "PJ7-C".toList

/-! ### SET (R177) -/

/-- A word of a SET in its form (stage 1): key and value, neither empty, the value of a numeric key in
digits and that of BUREAU in its alphabet. -/
def setWord? (w : Text) : Option (Text × Text) :=
  match keyValue? w with
  | none => none
  | some (k, v) =>
    if k.isEmpty || v.isEmpty then none
    else
      match key? k with
      | none => some (k, v)
      | some key =>
        if key.isReadOnly then some (k, v)
        else if key = .bureau then (name? 12 v).map fun _ => (k, v)
        else (number? v).map fun _ => (k, v)

/-- The value of a SET word lies within its key's range (stage 4). -/
def setInRange (k : Key) (v : Text) : Bool := k.isReadOnly || k == .bureau || k.inRange (digitsValue v)

/-- A writable key takes its new value; a read-only key takes none. -/
def putValue (p : Key × Text) (x : Settings) : Settings :=
  if p.1 = .bureau then { x with bureau := p.2 } else x.putNum p.1 (digitsValue p.2)

/-- The settings that a SET would leave. -/
def putAll (kvs : List (Key × Text)) (x : Settings) : Settings := kvs.foldl (fun x p => putValue p x) x

/-- The highest defined station number, 0 where none is defined. -/
def State.highestDefined (s : State) : Nat := (stationNumbers.filter s.defined).foldl max 0

/-- Stages 3 to 7 of R177: the first that fails. -/
def setRefusal (kvs : List (Key × Text)) (s : State) : Option Code :=
  let new := putAll kvs s.settings
  if ¬ (kvs.map (·.1)).Nodup then some .duplicate
  else if !kvs.all (fun p => setInRange p.1 p.2) then some .range
  else if new.guarded.white < new.guarded.black + 400 ∧ new.guarded.black < new.guarded.white + 400 then
    some .range
  else if new.guarded.slots < s.highestDefined then some .range
  else if kvs.any (fun p => p.1.isGuarded) && s.anyActive then some .busy
  else none

/-- The words of a SET by their keys (stage 2), each key of the table. -/
def setKeys? (words : List (Text × Text)) : Option (List (Key × Text)) :=
  allSome (words.map fun p => (key? p.1).map fun k => (k, p.2))

/-- SET (R177). Stage 3 makes the keys distinct, so their words are compared as keys. -/
def requestSet (args : List Text) (s : State) : State × Reply :=
  match args, allSome (args.map setWord?) with
  | [], _ => (s, .no .form)
  | _, none => (s, .no .form)
  | _, some words =>
    match setKeys? words with
    | none => (s, .no .unknown)
    | some kvs =>
      match setRefusal kvs s with
      | some c => (s, .no c)
      | none =>
        let t := s.onSettings (putAll kvs)
        (t, .setKeys
          ((kvs.filter fun p => !p.1.isReadOnly).map fun p => (p.1, t.keyValue p.1)))

/-! ### GET (R179) -/

/-- The first stage of a GET: a word with an equals sign, or a word twice. -/
def getIllFormed (args : List Text) : Bool :=
  args.any (fun w => w.contains '=') || !decide args.Nodup

/-- GET (R179). -/
def requestGet (args : List Text) (s : State) : State × Reply :=
  if args.isEmpty then (s, .getKeys (keyTable.map fun k => (k, s.keyValue k)))
  else if getIllFormed args then (s, .no .form)
  else
    match allSome (args.map key?) with
    | none => (s, .no .unknown)
    | some ks => (s, .getKeys (ks.map fun k => (k, s.keyValue k)))

end Sys2Proof.Machine
end

