-- ==== Sys2Proof/Machine/UnitRequests.lean ====
section
/-! DEFINITION. The requests of the Circuit Unit, the Scan Unit, the Calibration Unit, the Backup Domain
and the Receipt Unit: STATION, MASK, CURVE, CAL, CLOCK, RECEIPT, SLIP. -/

namespace Sys2Proof.Machine

/-! ### STATION (R89 to R91) -/

/-- Another defined station has the name (check 4 of R89). -/
def State.nameTaken (s : State) (n : Nat) (name : Text) : Bool :=
  stationNumbers.any fun k => k != n && (s.station k).name == some name

/-- Check 1 of R89. -/
def stationForm? (args : List Text) : Option (Nat × Text) :=
  match args with
  | [w, v] =>
    match number? w, (valueOf? "NAME".toList v).bind (name? 6) with
    | some n, some name => some (n, name)
    | _, _ => none
  | _ => none

/-- STATION s NAME=x (R89). -/
def requestStationDefine (args : List Text) (s : State) : State × Reply :=
  match stationForm? args with
  | none => (s, .no .form)
  | some (n, name) =>
    if n < 1 ∨ 16 < n then (s, .no .range)
    else if s.settings.guarded.slots < n then (s, .no .range)
    else if s.nameTaken n name then (s, .no .duplicate)
    else
      (updStation n (fun e => { e with name := some name }) s,
        if s.defined n then .stationRenamed n else .stationDefined n)

/-- A pass is in progress whose station list includes a station (check 4 of R90). -/
def State.inPass (s : State) (n : Nat) : Bool :=
  match s.sender.pass with
  | none => false
  | some p => p.stations.contains n

/-- STATION s OFF (R90). -/
def requestStationOff (w : Text) (s : State) : State × Reply :=
  match stationNumber w with
  | .error c => (s, .no c)
  | .ok n =>
    if !s.defined n then (s, .no .state)
    else if s.inPass n then (s, .no .busy)
    else (updStation n (fun e => { e with name := none, silence := 0, noise := 0 }) s, .stationOff n)

/-- STATION s (R91). -/
def requestStationRead (w : Text) (s : State) : State × Reply :=
  match stationNumber w with
  | .error c => (s, .no c)
  | .ok n => (s, .stationRead n (s.station n).name (s.station n).masked)

/-- The defined stations, ascending, with their names. -/
def State.definedStations (s : State) : List (Nat × Text) :=
  stationNumbers.filterMap fun n => (s.station n).name.map fun x => (n, x)

/-- STATION (R91). -/
def requestStationList (s : State) : State × Reply := (s, .stationList s.definedStations)

/-! ### MASK (R93, R95) -/

/-- The one word of a mask change: a sign followed at once by a decimal number. -/
def maskForm? (args : List Text) : Option (Bool × Nat) :=
  match args with
  | [c :: w] =>
    if c = '+' then (number? w).map fun n => (true, n)
    else if c = '-' then (number? w).map fun n => (false, n)
    else none
  | _ => none

/-- A pending mask flag set or cleared, applied at once where rounds are not running (R93). -/
def changeMask (on : Bool) (n : Nat) (s : State) : State :=
  let t := updStation n (fun e => { e with maskPending := on }) s
  if s.circuit.rounds.isSome then t else applyMask t

/-- MASK +s and MASK -s (R93). -/
def requestMaskChange (args : List Text) (s : State) : State × Reply :=
  match maskForm? args with
  | none => (s, .no .form)
  | some (on, n) =>
    if 1 ≤ n ∧ n ≤ 16 then (changeMask on n s, .maskChange on n s.circuit.rounds.isSome)
    else (s, .no .range)

/-- MASK (R95). -/
def requestMaskRead (s : State) : State × Reply :=
  (s, .maskRead (s.maskedBy (·.masked)) (s.maskedBy (·.maskPending)))

/-! ### CURVE (R61, R62) -/

/-- A loadable curve with its points replaced. -/
def loadCurve (k : Nat) (points : List Nat) (s : State) : State :=
  s.onScan fun c =>
    if k = 1 then { c with curve1 := points }
    else if k = 2 then { c with curve2 := points }
    else if k = 3 then { c with curve3 := points }
    else c

/-- CURVE k v0,…,v16 (R61). -/
def requestCurveLoad (args : List Text) (s : State) : State × Reply :=
  match args with
  | [w, v] =>
    match number? w, numbers? v with
    | some k, some points =>
      if points.length ≠ 17 then (s, .no .form)
      else if k < 1 ∨ 3 < k then (s, .no .range)
      else if points.any (fun p => decide (255 < p)) then (s, .no .range)
      else if s.anyActive then (s, .no .busy)
      else (loadCurve k points s, .curveLoad k)
    | _, _ => (s, .no .form)
  | _ => (s, .no .form)

/-- CURVE k (R62). -/
def requestCurveRead (args : List Text) (s : State) : State × Reply :=
  match args with
  | [w] =>
    match number? w with
    | none => (s, .no .form)
    | some k => if k ≤ 3 then (s, .curveRead k (s.scan.curvePoints k)) else (s, .no .range)
  | _ => (s, .no .form)

/-! ### CAL (R83, R84) -/

/-- CAL (R83). A further word that is not DEFAULT alone is refused. -/
def requestCal (args : List Text) (s : State) : State × Reply :=
  if !args.isEmpty then (s, .no .form)
  else if s.anyActive then (s, .no .busy)
  else if s.cal.state = .running then (s, .no .busy)
  else (askCalibration s, .cal)

/-- The power-up values of the calibration, a held request kept (R84). -/
def defaultCal (c : Calib) : Calib :=
  { c with state := .none, gain := 32, w0 := 3600, b0 := 400, tcal := none }

/-- CAL DEFAULT (R84). -/
def requestCalDefault (s : State) : State × Reply :=
  if s.anyActive then (s, .no .busy)
  else if s.cal.state = .running then (s, .no .busy)
  else (conclude (s.onCal defaultCal), .calDefault)

/-! ### CLOCK (R185) -/

/-- CLOCK (R185). -/
def requestClockRead (s : State) : State × Reply := (s, .clock s.backup.clock)

/-- The clock takes a value and begins a new second (R185). -/
def setClock (c : DayTime) (s : State) : State :=
  s.onBackup fun b => { b with clock := some c, secondEnds := s.now + 1000 }

/-- CLOCK hh:mm:ss day (R185). -/
def requestClockSet (args : List Text) (s : State) : State × Reply :=
  match args with
  | [w, v] =>
    match time? w, number? v with
    | some t, some d =>
      if timeOk t ∧ 1 ≤ d ∧ d ≤ 9999 then
        (setClock ⟨d, secOfDay t⟩ s, .clock (some ⟨d, secOfDay t⟩))
      else (s, .no .range)
    | _, _ => (s, .no .form)
  | _ => (s, .no .form)

/-! ### RECEIPT (R158) -/

/-- RECEIPT n (R158). -/
def requestReceiptRead (args : List Text) (s : State) : State × Reply :=
  match jobNumber args with
  | .error c => (s, .no c)
  | .ok n =>
    match s.findRecord n with
    | none => (s, .no .unknown)
    | some r => (s, .receipt r)

/-- How the list of the log marks a record. -/
def Record.mark (r : Record) : LogMark :=
  if r.isOpen then .openRecord else if r.reclaimable then .free else .held

/-- RECEIPT (R158). -/
def requestReceiptList (s : State) : State × Reply :=
  (s, .receiptList (s.receipts.log.map fun r => (r.job, r.mark)))

/-! ### SLIP (R160) -/

/-- Check 1 of R160: one or two decimal numbers. -/
def slipForm? (args : List Text) : Option (Nat × Option Nat) :=
  match args with
  | [w] => (number? w).map fun n => (n, none)
  | [w, v] =>
    match number? w, number? v with
    | some n, some p => some (n, some p)
    | _, _ => none
  | _ => none

/-- Check 2 of R160. -/
def slipRange (n : Nat) (p : Option Nat) : Bool :=
  decide (1 ≤ n) && decide (n ≤ 999) &&
    match p with
    | none => true
    | some p => decide (1 ≤ p) && decide (p ≤ 4)

/-- The pass of a record that a SLIP names: the given one, otherwise the latest (R160). -/
def Record.namedPass (r : Record) (p : Option Nat) : Option PassEntry :=
  match p with
  | none => r.passes.getLast?
  | some p => r.findPass p

/-- The entry of a pass in the slip queue. -/
def State.slipEntry (s : State) (n p : Nat) : Option SlipEntry :=
  s.receipts.slips.find? fun e => e.job == n && e.pass == p

/-- One copy more for an entry that keeps its place (R160). -/
def addCopy (n p : Nat) (s : State) : State :=
  s.onReceipts fun c =>
    { c with slips := c.slips.map fun e =>
        if e.job = n ∧ e.pass = p then { e with copies := e.copies + 1 } else e }

/-- A new entry of one copy, the newest, with its pass PENDING (R160). -/
def newSlip (n p : Nat) (s : State) : State :=
  (setSlip n p .pending s).onReceipts fun c =>
    { c with slips := c.slips ++ [{ job := n, pass := p, copies := 1, reprint := false }] }

/-- Checks 4 and 5 of R160 on a pass, and the copy. -/
def askCopy (n : Nat) (e : PassEntry) (s : State) : State × Reply :=
  if e.inProgress then (s, .no .state)
  else
    match s.slipEntry n e.number with
    | none => (conclude (newSlip n e.number s), .slip n e.number 1)
    | some x =>
      if x.copies < 9 then (addCopy n e.number s, .slip n e.number (x.copies + 1))
      else (s, .no .full)

/-- SLIP n and SLIP n p (R160). -/
def requestSlip (args : List Text) (s : State) : State × Reply :=
  match slipForm? args with
  | none => (s, .no .form)
  | some (n, p) =>
    if slipRange n p then
      match (s.findRecord n).bind fun r => r.namedPass p with
      | none => (s, .no .unknown)
      | some e => askCopy n e s
    else (s, .no .range)

/-- SLIP (R160). -/
def requestSlipRead (s : State) : State × Reply :=
  (s, .slipList (s.receipts.slips.map fun e => (e.job, e.pass, e.copies)))

end Sys2Proof.Machine
end

