-- ==== Sys2Proof/Machine/LinkRequests.lean ====
section
/-! DEFINITION. The requests the Link Unit answers itself (STATUS, REPORTS, CLEAR, RESET, a line that is
no request), the taking of any request, and how a completed line is taken or held (R169). -/

namespace Sys2Proof.Machine

/-! ### STATUS (R175) -/

/-- The speed STATUS shows with the drum state. -/
def Drive.shownSpeed (d : Drive) : Option Speed :=
  if d.drum.approaching then d.target else if d.drum = .locked then d.lockedAt else none

/-- What STATUS shows (R175). -/
def State.statusWords (s : State) : StatusWords :=
  { drum := s.drive.drum
    speed := s.drive.shownSpeed
    lamp := s.drive.lamp
    temp := s.drive.temp
    cal := s.cal.state
    carriage := s.drive.carriage
    circ := s.sender.circ
    hold := (s.sender.pass.map (·.holdReason)).getD false
    brk := (s.sender.pass.map (·.breakReason)).getD false
    job := s.mountedJob.map (·.number)
    printer := s.receipts.printer
    battery := s.backup.battery
    clock := s.backup.clock
    waiting := s.link.reports.length
    overflow := s.link.overflow
    garble := s.circuit.garble }

/-- STATUS (R175). -/
def requestStatus (args : List Text) (s : State) : State × Reply :=
  if args.isEmpty then (s, .status s.statusWords) else (s, .no .form)

/-! ### REPORTS and CLEAR (R173, R174) -/

/-- The report-pause flag set or cleared. -/
def setPause (on : Bool) (s : State) : State := s.onLink fun l => { l with paused := on }

/-- REPORTS ON (R173). -/
def requestReportsOn (s : State) : State × Reply := (setPause false s, .reportsOn)

/-- REPORTS OFF (R173). -/
def requestReportsOff (s : State) : State × Reply := (setPause true s, .reportsOff)

/-- REPORTS (R173). -/
def requestReportsRead (args : List Text) (s : State) : State × Reply :=
  if args.isEmpty then (s, .reports (!s.link.paused) s.link.reports.length s.link.overflow)
  else (s, .no .form)

/-- CLEAR (R174). -/
def requestClear (args : List Text) (s : State) : State × Reply :=
  if args.isEmpty then (s.onLink fun l => { l with overflow := false }, .clear s.link.overflow)
  else (s, .no .form)

/-! ### RESET (R181, R188) -/

/-- RESET (R181, R188). -/
def requestReset (args : List Text) (s : State) : State × Reply :=
  if args.isEmpty then (resetAll s, .reset) else (s, .no .form)

/-! ### Lines that are no request (R169) -/

/-- The code of a line that is no request (R169). -/
def badLineCode : BadLine → Code
  | .long => .long
  | .illFormed => .form
  | .unknownName => .form

/-- A line that is no request (R169). -/
def requestInvalid (w : BadLine) (s : State) : State × Reply := (s, .no (badLineCode w))

/-! ### The taking (R169) -/

/-- The owner of a request takes it: the state after it and its reply. -/
def ownerTakes : Request → State → State × Reply
  | .queue a, s => requestQueue a s
  | .mount a, s => requestMount a s
  | .start a, s => requestStart a s
  | .hold a, s => requestHold a s
  | .go a, s => requestGo a s
  | .kill a, s => requestKill a s
  | .repeatPass a, s => requestRepeat a s
  | .list a, s => requestList a s
  | .stationDefine a, s => requestStationDefine a s
  | .stationOff w, s => requestStationOff w s
  | .stationRead w, s => requestStationRead w s
  | .stationList, s => requestStationList s
  | .maskChange a, s => requestMaskChange a s
  | .maskRead, s => requestMaskRead s
  | .setKeys a, s => requestSet a s
  | .getKeys a, s => requestGet a s
  | .curveLoad a, s => requestCurveLoad a s
  | .curveRead a, s => requestCurveRead a s
  | .cal a, s => requestCal a s
  | .calDefault, s => requestCalDefault s
  | .clockRead, s => requestClockRead s
  | .clockSet a, s => requestClockSet a s
  | .receiptRead a, s => requestReceiptRead a s
  | .receiptList, s => requestReceiptList s
  | .slipRequest a, s => requestSlip a s
  | .slipRead, s => requestSlipRead s
  | .status a, s => requestStatus a s
  | .reportsOn, s => requestReportsOn s
  | .reportsOff, s => requestReportsOff s
  | .reportsRead a, s => requestReportsRead a s
  | .clear a, s => requestClear a s
  | .reset a, s => requestReset a s
  | .invalidLine w, s => requestInvalid w s

/-- A line is taken (R169): its reply, produced from the state as it stands, waits to be sent. -/
def takeRequest (r : Request) (s : State) : State :=
  let out := ownerTakes r s
  out.1.onLink fun l => { l with waiting := some out.2 }

/-- A completed line arrives (R169): discarded during a hold, held while a reply waits, otherwise taken. -/
def completed (r : Request) (s : State) : State :=
  if s.link.held.isSome then s.onLink fun l => { l with overrun := true }
  else
    let t := s.onLink emptyBuffer
    if s.link.waiting.isSome then t.onLink fun l => { l with held := some r, overrun := false }
    else takeRequest r t

/-- A request row: its line arrives, and the transmitter goes on. -/
def deliver (r : Request) (s : State) : State := pump (completed r s)

/-- A held line is taken as its turn comes (R169), with `*LNK OVERRUN` where characters were lost. -/
def takeHeld (s : State) : State :=
  match s.link.held with
  | none => s
  | some r =>
    let t := s.onLink fun l => { l with held := none, overrun := false }
    takeRequest r (if s.link.overrun then post .lnkOverrun t else t)

/-- The line in transmission ends (R171): a waiting reply begins and the held line is taken; otherwise
the oldest report begins, subject to the pause. -/
def lineEnds (s : State) : State :=
  match s.link.sending with
  | none => s
  | some _ => pump (takeHeld (pump (s.onLink fun l => { l with sending := none })))

/-- A character arrives (R167, R169). With a framing error it is none of CR and LF (log entry 57). -/
def receive (c : RxChar) (s : State) : State :=
  if isLF c then s
  else if s.link.held.isSome then s.onLink fun l => { l with overrun := true }
  else if isCR c then
    if s.link.partialLine then deliver (decodeLine s.link.buffer s.link.long) s else s
  else s.onLink (acceptChar c s.now)

/-- The inter-character timer runs out (R168). -/
def lineTimeout (s : State) : State :=
  match s.link.lineTimer with
  | none => s
  | some m => pump (post .lnkDiscard ((advanceTo m s).onLink emptyBuffer))

end Sys2Proof.Machine
end

