-- ==== Sys2Proof/Machine/RequestRows.lean ====
section
/-! DEFINITION. The rows of the newsroom link: a meaning for each request row (its completed line arrives,
R169), for a received character, for the inter-character timer and for the end of a line sent. -/

namespace Sys2Proof.Machine

/-- QUEUE (R1). -/
def execQueue (a : List Text) (s : State) : Host.Outcome State Fault Refusal :=
  live (deliver (.queue a)) s

/-- MOUNT (R9). -/
def execMount (a : List Text) (s : State) : Host.Outcome State Fault Refusal :=
  live (deliver (.mount a)) s

/-- START (R12). -/
def execStart (a : List Text) (s : State) : Host.Outcome State Fault Refusal :=
  live (deliver (.start a)) s

/-- HOLD (R135). -/
def execHold (a : List Text) (s : State) : Host.Outcome State Fault Refusal :=
  live (deliver (.hold a)) s

/-- GO (R138). -/
def execGo (a : List Text) (s : State) : Host.Outcome State Fault Refusal :=
  live (deliver (.go a)) s

/-- KILL (R145). -/
def execKill (a : List Text) (s : State) : Host.Outcome State Fault Refusal :=
  live (deliver (.kill a)) s

/-- REPEAT (R22). -/
def execRepeatPass (a : List Text) (s : State) : Host.Outcome State Fault Refusal :=
  live (deliver (.repeatPass a)) s

/-- LIST (R5). -/
def execList (a : List Text) (s : State) : Host.Outcome State Fault Refusal :=
  live (deliver (.list a)) s

/-- STATION_DEFINE (R89). -/
def execStationDefine (a : List Text) (s : State) : Host.Outcome State Fault Refusal :=
  live (deliver (.stationDefine a)) s

/-- STATION_OFF (R90). -/
def execStationOff (w : Text) (s : State) : Host.Outcome State Fault Refusal :=
  live (deliver (.stationOff w)) s

/-- STATION_READ (R91). -/
def execStationRead (w : Text) (s : State) : Host.Outcome State Fault Refusal :=
  live (deliver (.stationRead w)) s

/-- STATION_LIST (R91). -/
def execStationList (s : State) : Host.Outcome State Fault Refusal := live (deliver .stationList) s

/-- MASK_CHANGE (R93). -/
def execMaskChange (a : List Text) (s : State) : Host.Outcome State Fault Refusal :=
  live (deliver (.maskChange a)) s

/-- MASK_READ (R95). -/
def execMaskRead (s : State) : Host.Outcome State Fault Refusal := live (deliver .maskRead) s

/-- SET (R177). -/
def execSetKeys (a : List Text) (s : State) : Host.Outcome State Fault Refusal :=
  live (deliver (.setKeys a)) s

/-- GET (R179). -/
def execGetKeys (a : List Text) (s : State) : Host.Outcome State Fault Refusal :=
  live (deliver (.getKeys a)) s

/-- CURVE_LOAD (R61). -/
def execCurveLoad (a : List Text) (s : State) : Host.Outcome State Fault Refusal :=
  live (deliver (.curveLoad a)) s

/-- CURVE_READ (R62). -/
def execCurveRead (a : List Text) (s : State) : Host.Outcome State Fault Refusal :=
  live (deliver (.curveRead a)) s

/-- CAL (R83). -/
def execCal (a : List Text) (s : State) : Host.Outcome State Fault Refusal :=
  live (deliver (.cal a)) s

/-- CAL_DEFAULT (R84). -/
def execCalDefault (s : State) : Host.Outcome State Fault Refusal := live (deliver .calDefault) s

/-- CLOCK_READ (R185). -/
def execClockRead (s : State) : Host.Outcome State Fault Refusal := live (deliver .clockRead) s

/-- CLOCK_SET (R185). -/
def execClockSet (a : List Text) (s : State) : Host.Outcome State Fault Refusal :=
  live (deliver (.clockSet a)) s

/-- RECEIPT_READ (R158). -/
def execReceiptRead (a : List Text) (s : State) : Host.Outcome State Fault Refusal :=
  live (deliver (.receiptRead a)) s

/-- RECEIPT_LIST (R158). -/
def execReceiptList (s : State) : Host.Outcome State Fault Refusal := live (deliver .receiptList) s

/-- SLIP_REQUEST (R160). -/
def execSlipRequest (a : List Text) (s : State) : Host.Outcome State Fault Refusal :=
  live (deliver (.slipRequest a)) s

/-- SLIP_READ (R160). -/
def execSlipRead (s : State) : Host.Outcome State Fault Refusal := live (deliver .slipRead) s

/-- STATUS (R175). -/
def execStatus (a : List Text) (s : State) : Host.Outcome State Fault Refusal :=
  live (deliver (.status a)) s

/-- REPORTS_ON (R173). -/
def execReportsOn (s : State) : Host.Outcome State Fault Refusal := live (deliver .reportsOn) s

/-- REPORTS_OFF (R173). -/
def execReportsOff (s : State) : Host.Outcome State Fault Refusal := live (deliver .reportsOff) s

/-- REPORTS_READ (R173). -/
def execReportsRead (a : List Text) (s : State) : Host.Outcome State Fault Refusal :=
  live (deliver (.reportsRead a)) s

/-- CLEAR (R174). -/
def execClear (a : List Text) (s : State) : Host.Outcome State Fault Refusal :=
  live (deliver (.clear a)) s

/-- RESET (R188). -/
def execReset (a : List Text) (s : State) : Host.Outcome State Fault Refusal :=
  live (deliver (.reset a)) s

/-- INVALID_LINE (R169). -/
def execInvalidLine (y : BadLine) (s : State) : Host.Outcome State Fault Refusal :=
  live (deliver (.invalidLine y)) s

/-- CHARACTER_RECEIVED (R167). -/
def execCharacterReceived (c : RxChar) (s : State) : Host.Outcome State Fault Refusal :=
  live (receive c) s

/-- INTER_CHARACTER_TIMEOUT (R168). -/
def execInterCharacterTimeout (s : State) : Host.Outcome State Fault Refusal := live lineTimeout s

/-- LINE_SENT (R171). -/
def execLineSent (s : State) : Host.Outcome State Fault Refusal := live lineEnds s

end Sys2Proof.Machine
end

