-- ==== Sys2Proof/Machine/SenderEvents.lean ====
section
/-! DEFINITION. The timers of the Sender (chapters 6 and 7): the ends of the call-up, end and kill
signals, and the hold and break deadlines. -/

namespace Sys2Proof.Machine

/-- The call-up signal ends (R112): its done mark set, steady Fw put out. -/
def callupSignalEnd (s : State) : State :=
  match s.sender.circ, s.sender.signalEnds, s.sender.pass with
  | .callup, some m, some p =>
    (advanceTo m s).onSender fun x =>
      { x with
        tone := .steady p.copy.white
        signalEnds := none
        pass := some { p with callDone := true } }
  | _, _, _ => s

/-- The end signal ends (R128): GATHERING with its count at 0, the output silent. -/
def endSignalEnd (s : State) : State :=
  match s.sender.circ, s.sender.signalEnds with
  | .ending, some m =>
    (setCirc .gathering .silent (advanceTo m s)).onPass fun p => { p with gatherCount := 0 }
  | _, _ => s

/-- The kill signal ends (R146): the pass closes with the outcome decided at the entry. -/
def killSignalEnd (s : State) : State :=
  match s.sender.circ, s.sender.signalEnds with
  | .killing, some m => closePass (advanceTo m s)
  | _, _ => s

/-- The hold deadline is reached with HOLD still in the set (R143). -/
def holdDeadline (s : State) : State :=
  match s.sender.pass with
  | none => s
  | some p =>
    match p.holdReason, p.holdDeadline with
    | true, some m => failPass .holdTimeout (advanceTo m s)
    | _, _ => s

/-- The break deadline is reached with BREAK still in the set (R143). -/
def breakDeadline (s : State) : State :=
  match s.sender.pass with
  | none => s
  | some p =>
    match p.breakReason, p.breakDeadline with
    | true, some m => failPass .breakTimeout (advanceTo m s)
    | _, _ => s

/-! ### The rows -/

/-- CALLUP_SIGNAL_END (R112). -/
def execCallupSignalEnd (s : State) : Host.Outcome State Fault Refusal := live callupSignalEnd s

/-- END_SIGNAL_END (R128). -/
def execEndSignalEnd (s : State) : Host.Outcome State Fault Refusal := live endSignalEnd s

/-- KILL_SIGNAL_END (R146). -/
def execKillSignalEnd (s : State) : Host.Outcome State Fault Refusal :=
  live (fun s => finish (killSignalEnd s)) s

/-- HOLD_DEADLINE (R143). -/
def execHoldDeadline (s : State) : Host.Outcome State Fault Refusal :=
  live (fun s => finish (holdDeadline s)) s

/-- BREAK_DEADLINE (R143). -/
def execBreakDeadline (s : State) : Host.Outcome State Fault Refusal :=
  live (fun s => finish (breakDeadline s)) s

end Sys2Proof.Machine
end

