-- ==== Sys2Proof/Machine/Dispatch.lean ====
section
/-! DEFINITION. One arm per command: each calls the meaning of its row. -/

namespace Sys2Proof.Machine

def exec (i : Instr) (s : State) : Host.Outcome State Fault Refusal :=
  match i with
  | .queue a => Sys2Proof.Machine.execQueue a s
  | .mount a => Sys2Proof.Machine.execMount a s
  | .start a => Sys2Proof.Machine.execStart a s
  | .hold a => Sys2Proof.Machine.execHold a s
  | .go a => Sys2Proof.Machine.execGo a s
  | .kill a => Sys2Proof.Machine.execKill a s
  | .repeatPass a => Sys2Proof.Machine.execRepeatPass a s
  | .list a => Sys2Proof.Machine.execList a s
  | .stationDefine a => Sys2Proof.Machine.execStationDefine a s
  | .stationOff w => Sys2Proof.Machine.execStationOff w s
  | .stationRead w => Sys2Proof.Machine.execStationRead w s
  | .stationList => Sys2Proof.Machine.execStationList s
  | .maskChange a => Sys2Proof.Machine.execMaskChange a s
  | .maskRead => Sys2Proof.Machine.execMaskRead s
  | .setKeys a => Sys2Proof.Machine.execSetKeys a s
  | .getKeys a => Sys2Proof.Machine.execGetKeys a s
  | .curveLoad a => Sys2Proof.Machine.execCurveLoad a s
  | .curveRead a => Sys2Proof.Machine.execCurveRead a s
  | .cal a => Sys2Proof.Machine.execCal a s
  | .calDefault => Sys2Proof.Machine.execCalDefault s
  | .clockRead => Sys2Proof.Machine.execClockRead s
  | .clockSet a => Sys2Proof.Machine.execClockSet a s
  | .receiptRead a => Sys2Proof.Machine.execReceiptRead a s
  | .receiptList => Sys2Proof.Machine.execReceiptList s
  | .slipRequest a => Sys2Proof.Machine.execSlipRequest a s
  | .slipRead => Sys2Proof.Machine.execSlipRead s
  | .status a => Sys2Proof.Machine.execStatus a s
  | .reportsOn => Sys2Proof.Machine.execReportsOn s
  | .reportsOff => Sys2Proof.Machine.execReportsOff s
  | .reportsRead a => Sys2Proof.Machine.execReportsRead a s
  | .clear a => Sys2Proof.Machine.execClear a s
  | .reset a => Sys2Proof.Machine.execReset a s
  | .invalidLine y => Sys2Proof.Machine.execInvalidLine y s
  | .characterReceived c => Sys2Proof.Machine.execCharacterReceived c s
  | .interCharacterTimeout => Sys2Proof.Machine.execInterCharacterTimeout s
  | .lineSent => Sys2Proof.Machine.execLineSent s
  | .coverClose => Sys2Proof.Machine.execCoverClose s
  | .coverOpen => Sys2Proof.Machine.execCoverOpen s
  | .sendKey => Sys2Proof.Machine.execSendKey s
  | .holdKey => Sys2Proof.Machine.execHoldKey s
  | .stopKey => Sys2Proof.Machine.execStopKey s
  | .indexMark n => Sys2Proof.Machine.execIndexMark n s
  | .samplePosition p x => Sys2Proof.Machine.execSamplePosition p x s
  | .lockTimerExpiry => Sys2Proof.Machine.execLockTimerExpiry s
  | .tachometerSilence => Sys2Proof.Machine.execTachometerSilence s
  | .spinUpEntryExpiry => Sys2Proof.Machine.execSpinUpEntryExpiry s
  | .idleHoldExpiry => Sys2Proof.Machine.execIdleHoldExpiry s
  | .homeSwitch => Sys2Proof.Machine.execHomeSwitch s
  | .returnTimerExpiry => Sys2Proof.Machine.execReturnTimerExpiry s
  | .stepSense => Sys2Proof.Machine.execStepSense s
  | .endSwitch => Sys2Proof.Machine.execEndSwitch s
  | .warmUpExpiry => Sys2Proof.Machine.execWarmUpExpiry s
  | .lampCurrentFault => Sys2Proof.Machine.execLampCurrentFault s
  | .temperatureReading t => Sys2Proof.Machine.execTemperatureReading t s
  | .carrierPresent => Sys2Proof.Machine.execCarrierPresent s
  | .returnCharacter c => Sys2Proof.Machine.execReturnCharacter c s
  | .slotEnd => Sys2Proof.Machine.execSlotEnd s
  | .callupSignalEnd => Sys2Proof.Machine.execCallupSignalEnd s
  | .endSignalEnd => Sys2Proof.Machine.execEndSignalEnd s
  | .killSignalEnd => Sys2Proof.Machine.execKillSignalEnd s
  | .holdDeadline => Sys2Proof.Machine.execHoldDeadline s
  | .breakDeadline => Sys2Proof.Machine.execBreakDeadline s
  | .toneOn => Sys2Proof.Machine.execToneOn s
  | .toneOff => Sys2Proof.Machine.execToneOff s
  | .armingTimerExpiry => Sys2Proof.Machine.execArmingTimerExpiry s
  | .endingTimerExpiry => Sys2Proof.Machine.execEndingTimerExpiry s
  | .slipLinePrinted => Sys2Proof.Machine.execSlipLinePrinted s
  | .paperOut => Sys2Proof.Machine.execPaperOut s
  | .paperIn => Sys2Proof.Machine.execPaperIn s
  | .secondEvent => Sys2Proof.Machine.execSecondEvent s
  | .batteryChange b => Sys2Proof.Machine.execBatteryChange b s
  | .retentionLatchSet => Sys2Proof.Machine.execRetentionLatchSet s
  | .powerUp pins => Sys2Proof.Machine.execPowerUp pins s
  | .mainPowerLoss => Sys2Proof.Machine.execMainPowerLoss s

end Sys2Proof.Machine
end

