-- ==== Sys2Proof/Machine/Step.lean ====
section
/-! DEFINITION. One step of the part: the command at the front of the queue of waiting commands, run with
the rest of the queue; on an empty queue one millisecond of running time passes (log entry 3). -/

namespace Sys2Proof.Machine

/-- What the part does with no command waiting: its running time moves on by a millisecond (R184). -/
def idle (s : State) : State := { s with now := s.now + 1 }

def step (s : State) : Host.Outcome State Fault Refusal :=
  match s.pending with
  | [] => .next (idle s)
  | c :: rest => exec c { s with pending := rest }

/-- The state with the command a table word spells put at the front of its queue; no word of the table
spells one, since spec/opcode_table.json gives no row any bits. -/
def State.withFetchWord (s : State) (nbits w : Nat) : State :=
  match decodeTableWord nbits w with
  | none => s
  | some c => { s with pending := c :: s.pending }

end Sys2Proof.Machine
end

