-- ==== Sys2Proof/WellFormed.lean ====
section
/-! DEFINITION. Which commands can arise: a request row holds the words of a line that the link can
carry and that the table gives to that row; a sample position lies in the revolution. -/

namespace Sys2Proof

/-- A word of a request line: not empty, printable, without spaces (R167, R169). -/
def wordOk (w : Text) : Bool :=
  !w.isEmpty && w.all fun c => isPrintable c && c != ' '

/-- The words of a row have the shape that sends a line to that row (section 9.3). -/
def Request.shapeOk : Request → Bool
  | .stationDefine a => decide (2 ≤ a.length) && decide (a.drop 1 ≠ ["OFF".toList])
  | .maskChange a => !a.isEmpty
  | .curveLoad a => decide (2 ≤ a.length)
  | .curveRead a => decide (a.length ≤ 1)
  | .cal a => decide (a ≠ ["DEFAULT".toList])
  | .clockSet a => !a.isEmpty
  | .receiptRead a => !a.isEmpty
  | .slipRequest a => !a.isEmpty
  | .reportsRead a => decide (a ≠ ["ON".toList]) && decide (a ≠ ["OFF".toList])
  | _ => true

/-- The line a request is written as fits the input buffer and its words are words (R167, R169). -/
def Request.lineOk (r : Request) : Bool :=
  match requestWords r with
  | none => true
  | some (n, args) => args.all wordOk && decide ((joinWith ' ' (n.text :: args)).length ≤ Config.lineCap)

/-- A request that a line of the link can be. -/
def Request.wellFormed (r : Request) : Bool := r.shapeOk && r.lineOk

/-- The request a command delivers, for the rows that are request lines. -/
def Instr.request? : Instr → Option Request
  | .queue a => some (.queue a)
  | .mount a => some (.mount a)
  | .start a => some (.start a)
  | .hold a => some (.hold a)
  | .go a => some (.go a)
  | .kill a => some (.kill a)
  | .repeatPass a => some (.repeatPass a)
  | .list a => some (.list a)
  | .stationDefine a => some (.stationDefine a)
  | .stationOff s => some (.stationOff s)
  | .stationRead s => some (.stationRead s)
  | .stationList => some .stationList
  | .maskChange a => some (.maskChange a)
  | .maskRead => some .maskRead
  | .setKeys a => some (.setKeys a)
  | .getKeys a => some (.getKeys a)
  | .curveLoad a => some (.curveLoad a)
  | .curveRead a => some (.curveRead a)
  | .cal a => some (.cal a)
  | .calDefault => some .calDefault
  | .clockRead => some .clockRead
  | .clockSet a => some (.clockSet a)
  | .receiptRead a => some (.receiptRead a)
  | .receiptList => some .receiptList
  | .slipRequest a => some (.slipRequest a)
  | .slipRead => some .slipRead
  | .status a => some (.status a)
  | .reportsOn => some .reportsOn
  | .reportsOff => some .reportsOff
  | .reportsRead a => some (.reportsRead a)
  | .clear a => some (.clear a)
  | .reset a => some (.reset a)
  | .invalidLine w => some (.invalidLine w)
  | .characterReceived _ | .interCharacterTimeout | .lineSent | .coverClose | .coverOpen | .sendKey
  | .holdKey | .stopKey | .indexMark _ | .samplePosition _ _ | .lockTimerExpiry | .tachometerSilence
  | .spinUpEntryExpiry | .idleHoldExpiry | .homeSwitch | .returnTimerExpiry | .stepSense | .endSwitch
  | .warmUpExpiry | .lampCurrentFault | .temperatureReading _ | .carrierPresent | .returnCharacter _
  | .slotEnd | .callupSignalEnd | .endSignalEnd | .killSignalEnd | .holdDeadline | .breakDeadline
  | .toneOn | .toneOff | .armingTimerExpiry | .endingTimerExpiry | .slipLinePrinted | .paperOut
  | .paperIn | .secondEvent | .batteryChange _ | .retentionLatchSet | .powerUp _ | .mainPowerLoss => none

/-- The well-formed commands: a request row as above; a sample position below 1,280 (R31). -/
def Instr.wellFormed (i : Instr) : Bool :=
  match i.request? with
  | some r => r.wellFormed
  | none =>
    match i with
    | .samplePosition p _ => decide (p < Config.positions)
    | _ => true

end Sys2Proof
end

