-- ==== Sys2Proof/Safety.lean ====
section
/-! DEFINITION. The terms in which claims about the part are made: when a request line is taken at once,
what a reply does to the link, the forms of the values a request carries, where a pass stands and what its
close leaves, a job that waits and the state its start leaves, the capacities of the part, and the
agreement of queue, load state and pass. -/

namespace Sys2Proof.Machine

/-! ### Taking a request -/

/-- A request line that arrives now is taken at once: main power is present, no line is held and no reply
waits (R169). -/
abbrev State.takes (s : State) : Prop :=
  s.powered = true ∧ s.link.held = none ∧ s.link.waiting = none

/-- The link after a reply was produced (R171): the input buffer empty, the reply being sent where the
transmitter was idle, waiting otherwise. -/
def Link.answered (r : Reply) (l : Link) : Link :=
  { l with
    buffer := []
    long := false
    lineTimer := none
    sending := some (l.sending.getD (.reply r))
    waiting := if l.sending.isNone then none else some r }

/-- A state after a reply was produced, nothing but the link changed. -/
def State.answered (r : Reply) (s : State) : State := { s with link := s.link.answered r }

/-! ### Revolutions -/

/-- The error of a revolution of a measured period, in microseconds, against the nominal period of a speed,
60 s divided by it, lies within a number of thousandths of the nominal period, the limit included (R27). -/
abbrev withinError (limit : Nat) (v : Speed) (period : Nat) : Prop :=
  |(period : Int) * v.rpm - 60000000| ≤ limit * 60000

/-! ### Reports -/

/-- The link after reports were posted in order (R172): each joins the queue while fewer than 32 wait,
otherwise the overflow flag is set. -/
def Link.posted (l : Link) (rs : List Report) : Link :=
  { l with
    reports := l.reports ++ rs.take (Config.reportCap - l.reports.length)
    overflow := l.overflow || decide (Config.reportCap - l.reports.length < rs.length) }

/-- The link at the end of a step (R171): with the transmitter idle, a waiting reply begins, otherwise
the oldest report unless reports are paused. -/
def Link.pumped (l : Link) : Link :=
  if l.sending.isSome then l
  else if l.waiting.isSome then { l with sending := l.waiting.map .reply, waiting := none }
  else if l.paused then l
  else { l with sending := l.reports.head?.map .report, reports := l.reports.tail }

/-- Nothing waits for a test at the end of the step: no job is RELEASED, and the printer has no slip to
begin (R16, R162). -/
abbrev State.resting (s : State) : Prop :=
  s.releasedJob = none ∧ (s.receipts.printer = .ready → s.receipts.slips = [])

/-! ### The forms of values -/

/-- A decimal number, without sign or separator (R170). -/
abbrev isNumber (w : Text) : Prop := w ≠ [] ∧ ∀ c ∈ w, 48 ≤ c.toNat ∧ c.toNat ≤ 57

/-- Decimal numbers joined by single commas, without spaces (the STN word of R2). -/
abbrev isNumberList (w : Text) : Prop := ∀ v ∈ splitOn ',' w, isNumber v

/-- A time of day as hh:mm:ss, two digits each (the AT word of R2). -/
abbrev isTime (w : Text) : Prop :=
  w.length = 8 ∧ w[2]? = some ':' ∧ w[5]? = some ':' ∧
    ∀ i ∈ [0, 1, 3, 4, 6, 7], ∀ c ∈ w[i]?, 48 ≤ c.toNat ∧ c.toNat ≤ 57

/-- A name of 1 to `most` characters of its alphabet: a slug, a station name, the BUREAU setting. -/
abbrev isName (most : Nat) (w : Text) : Prop :=
  w ≠ [] ∧ w.length ≤ most ∧ ∀ c ∈ w, isNameChar c = true

/-! ### Where a pass stands, and its close -/

/-- Nothing of the picture has been sent (the first row of R144). -/
abbrev State.unsent (s : State) (p : Pass) : Prop :=
  s.sender.circ = .callup ∨ s.sender.circ = .answer ∨
    (s.sender.circ = .paused ∧ p.resume = some .callup)

/-- The receivers are in the middle of the picture (the second and third rows of R144). -/
abbrev State.midPicture (s : State) (p : Pass) : Prop :=
  s.sender.circ = .phasing ∨ s.sender.circ = .picture ∨
    (s.sender.circ = .paused ∧ (p.resume = some .rephase ∨ p.resume = some .phasing))

/-- The picture has been sent in full (the fourth row of R144). -/
abbrev State.sentInFull (s : State) (p : Pass) : Prop :=
  s.sender.circ = .ending ∨ s.sender.circ = .gathering ∨
    (s.sender.circ = .paused ∧ (p.resume = some .ending ∨ p.resume = some .gathering))

/-- What the queue holds for a pass that is not detached: its ACTIVE job bound under a closed cover (R11,
R20), and its wants (R17), whose withdrawal begins an idle hold that lasts, no calibration want standing
beside them (R38). -/
abbrev State.holdsJob (s : State) (p : Pass) : Prop :=
  p.detached = false →
    s.queue.load ≠ .coverOpen ∧
      (s.queue.jobs.find? fun j => j.number == p.job).map (·.state) = some .active ∧
      s.drive.queueWant.isSome ∧ s.drive.calWant = none ∧ s.settings.idle ≠ 0

/-- The reports of the close of a pass (R131, R21). -/
def Pass.endReports (p : Pass) (o : PassOutcome) (why : Option Reason) : List Report :=
  .passEnd p.job p.number o why :: if o = .killed ∧ p.detached = false then [.loadUnbound] else []

/-- `t` is left by the close of the pass `p` with an outcome, from `s`: the circuit free or broken and the
output silent, the rounds stopped and the mask applied (R131, R94), scanning over (R72); unless the pass is
detached, the job FINISHED or, killed, gone from the queue with the print unbound (R21, R24), the wants
withdrawn, the fault hold clear and idle hold begun (R17, R32, R37, R38). -/
abbrev State.closes (s t : State) (p : Pass) (o : PassOutcome) : Prop :=
  t.circuit.detector = s.circuit.detector ∧
    t.sender =
      ⟨if s.circuit.detector = .present ∨ s.circuit.detector = .ending then .broken else .free, none,
        .silent, none⟩ ∧
    t.circuit.rounds = none ∧
    t.circuit.roster.map (·.masked) = s.circuit.roster.map (·.maskPending) ∧
    t.scan.pass = none ∧ (s.scan.pass.any (fun x => !x.ended) = true → t.scan.store = []) ∧
    t.queue =
      (if p.detached then s.queue
      else if o = .killed then ⟨s.queue.jobs.filter fun j => j.number != p.job, .unbound, []⟩
      else
        { s.queue with
          jobs := s.queue.jobs.map fun j =>
            if j.number = p.job then { j with state := .finished } else j }) ∧
    (p.detached = true → t.drive.queueWant = s.drive.queueWant) ∧
    (p.detached = false →
      t.drive.queueWant = none ∧ t.drive.faultHold = false ∧ t.drive.pendingStart = false ∧
        t.drive.idleTimer = some (t.now + 1000 * s.settings.idle))

/-! ### A job that waits, and a job that starts -/

/-- The job `j`, RELEASED, goes on waiting: the drum or the lamp is not ready for it (R16), and the causes recorded
are those now missing, in their order (R19), so that the start test posts nothing. -/
abbrev State.waits (s : State) (j : Job) : Prop :=
  ¬ (s.drive.drum = .locked ∧ s.drive.lockedAt = some j.speed ∧ s.drive.lamp = .ready) ∧
    s.queue.missing =
      (if s.drive.drum = .locked ∧ s.drive.lockedAt = some j.speed then []
        else if s.drive.pendingStart = true then [.budget]
        else [.drum]) ++
      (if s.drive.lamp = .ready then [] else [.lamp]) ++
      (if s.cal.state = .fresh then [] else [.cal]) ++
      (if s.sender.circ = .free then [] else [.circuit]) ++
      (if 1 < j.passNo ∨ s.receipts.log.length < 16 ∨ ∃ r ∈ s.receipts.log, r.reclaimable = true then []
        else [.log])

/-- The job `j` is the RELEASED job, the circuit is FREE and a record can be had for its pass without reclaiming
(R16), the call-up has a station to call (R113), and the printer has no slip to begin (R162). -/
abbrev State.awaits (s : State) (j : Job) : Prop :=
  (s.queue.jobs.find? fun k => k.state == .released) = some j ∧ s.sender.circ = .free ∧
    (1 < j.passNo ∨ (j.passNo = 1 ∧ s.receipts.log.length < 16)) ∧
    (∃ n ∈ j.stations, (s.station n).name.isSome ∧ (s.station n).maskPending = false) ∧
    (s.receipts.printer = .ready → s.receipts.slips = [])

/-- The party list that a call-up builds for a station list (R96, R113), the mask applied (R94). -/
def State.partyOf (s : State) (stations : List Nat) : List Party :=
  stations.map fun n =>
    { station := n
      name := (s.station n).name
      state :=
        if (s.station n).name = none then .absent
        else if (s.station n).maskPending then .masked
        else .invited
      maskedInWindow := false
      lateReported := false
      result := none }

/-- The state after the start of a job (R20), the reports apart: ACTIVE, its record opened or its pass appended
(R154, R155), the Scan Unit's context and references (R52), the mask applied, the counts cleared and rounds begun
(R92, R94, R98), the pass record (R110), and the call-up with the carriage's return (R112, R113). Of the pass
record's values the three of log entry 48 are the model's choice. -/
def State.begun (s : State) (j : Job) : State :=
  let party := s.partyOf j.stations
  let called := (party.filter fun e => e.state == .invited).map (·.station)
  let entry : PassEntry := ⟨j.passNo, j.stations, s.backup.clock, none⟩
  { s with
    queue :=
      { s.queue with
        missing := []
        jobs := s.queue.jobs.map fun k => if k.number = j.number then { k with state := .active } else k }
    receipts :=
      { s.receipts with
        log :=
          if j.passNo = 1 then
            s.receipts.log ++ [⟨j.number, j.slug, j.priority, j.pitch, j.speed, j.lines, true, [entry]⟩]
          else
            s.receipts.log.map fun r =>
              if r.job = j.number then { r with passes := r.passes ++ [entry] } else r }
    scan :=
      { s.scan with
        wr := s.cal.w0
        br := s.cal.b0
        pass := some ⟨j.number, j.curve, j.pitch, j.lines, 1, none, 0, 0, 0, false, false, false⟩ }
    circuit :=
      { s.circuit with
        roster := s.circuit.roster.map fun e => { e with masked := e.maskPending, silence := 0, noise := 0 }
        rounds :=
          some
            ⟨s.settings.guarded.slots, 1, 0, s.now + 250, false, [],
              decide (s.circuit.detector = .present ∨ s.circuit.detector = .ending)⟩ }
    drive :=
      if s.drive.carriage = .home ∨ s.drive.carriage = .returning then { s.drive with stepFaults := 0 }
      else
        { s.drive with
          stepFaults := 0
          carriage := .returning
          position := none
          returnTimer := some (s.now + 3000) }
    sender :=
      { circ := .callup
        pass :=
          some
            { job := j.number
              number := j.passNo
              stations := j.stations
              lines := j.lines
              speed := j.speed
              sent := 0
              fills := 0
              consecFills := 0
              lastCodes := none
              heldSent := 0
              windowOpen := false
              openRound := none
              closeRound := none
              callDone := false
              phaseCount := 0
              lastPhasing := false
              gatherCount := 0
              outcome := none
              reason := none
              secondary := none
              detached := false
              holdReason := false
              breakReason := false
              pausePending := false
              resume := none
              rephase := false
              holdDeadline := none
              breakDeadline := none
              line := none
              copy := s.settings.guarded
              party := party }
        tone := .callup called s.now
        signalEnds := some (s.now + (2000 + 500 * called.length)) } }

/-! ### Capacities -/

/-- The Link Unit holds no more than it can: 32 reports (R172), 120 characters (R167). -/
abbrev State.linkBounded (s : State) : Prop :=
  s.link.reports.length ≤ 32 ∧ s.link.buffer.length ≤ 120

/-- The store holds at most 2 records, counting the line being scanned (R65). -/
abbrev State.storeBounded (s : State) : Prop :=
  s.scan.store.length + (if (s.scan.pass.bind (·.line)).isSome then 1 else 0) ≤ 2

/-- The roster has its sixteen entries, and every count of the circuit keeps its limit: silence 12
(section 5.1), noise and garble 65,535 (R92, R103). -/
abbrev State.circuitBounded (s : State) : Prop :=
  s.circuit.roster.length = 16 ∧ s.circuit.garble ≤ 65535 ∧
    ∀ e ∈ s.circuit.roster, e.silence ≤ 12 ∧ e.noise ≤ 65535

/-- The queue and the log hold no more than they can, and the counter is a job number: 8 jobs (R2), 16
records (R153), 1 to 999 (R186). -/
abbrev State.queueBounded (s : State) : Prop :=
  s.queue.jobs.length ≤ 8 ∧ s.receipts.log.length ≤ 16 ∧
    1 ≤ s.backup.counter ∧ s.backup.counter ≤ 999

/-- The drive keeps its limits: 6 spin-up entries (R36), lock count 3 and loss count 2 (R26), 3 step
faults (R40), temperatures 0 to 99 (R48). -/
abbrev State.driveBounded (s : State) : Prop :=
  s.drive.spinUps.length ≤ 6 ∧ s.drive.lockCount ≤ 3 ∧ s.drive.lossCount ≤ 2 ∧
    s.drive.stepFaults ≤ 3 ∧ s.drive.temp ≤ 99

/-- A calibration run keeps its steps within reach (R79): the working step and the weights still to be
tried sum to at most 63. -/
abbrev CalRun.bounded (r : CalRun) : Prop :=
  r.savedStep ≤ 63 ∧ 1 ≤ r.counted ∧ r.counted ≤ 8 ∧
    (r.counted = 1 → r.working = 0) ∧ (2 ≤ r.counted → r.working + 2 ^ (8 - r.counted) ≤ 64)

/-- The gain step lies in 0 to 63 (R75), and so does every step a run in progress can come to. -/
abbrev State.gainBounded (s : State) : Prop :=
  s.cal.gain ≤ 63 ∧ ∀ r, s.cal.run = some r → r.bounded

/-- The day clock, where set, holds a day 1 to 9999 and a second of the day (R184). -/
abbrev State.clockOk (s : State) : Prop :=
  ∀ c, s.backup.clock = some c → 1 ≤ c.day ∧ c.day ≤ 9999 ∧ c.sec < 86400

/-! ### Queue, load state and pass -/

/-- The jobs have distinct numbers (R3); at most one is mounted, and the load state is BOUND exactly while
one is (R6); a pass in progress that is not detached belongs to the ACTIVE job (R11, R20). -/
abbrev State.bindingOk (s : State) : Prop :=
  (s.queue.jobs.map (·.number)).Nodup ∧
  (s.queue.jobs.filter fun j => j.state != .queued).length ≤ 1 ∧
  (s.queue.load = .bound ↔ ∃ j ∈ s.queue.jobs, j.state ≠ .queued) ∧
  ∀ p, s.sender.pass = some p → p.detached = false →
    ∃ j ∈ s.queue.jobs, j.number = p.job ∧ j.state = .active

end Sys2Proof.Machine
end

