-- ==== Sys2Proof/Certificates/Slice0/Obligations.lean ====
section
/-! DEFINITION. The statements put to the provers, each an `Obligations.<Name>`. A request line that is
taken at once (`State.takes`) is answered as `State.answered` says; reports join as `Link.posted` says,
and the transmitter goes on at the end of a step as `Link.pumped` says (Sys2Proof/Safety.lean). -/

open Sys2Proof Sys2Proof.Machine

/-! ### The step -/

/-- A step runs the command at the front of the queue with the queue's rest. -/
def Obligations.StepRunsFrontCommand : Prop :=
  ∀ (c : Instr) (rest : List Instr) (s : State),
    step { s with pending := c :: rest } = exec c { s with pending := rest }

/-- With no command waiting a millisecond of running time passes: the model's choice (log entry 3). -/
def Obligations.EmptyQueueStepTicks : Prop :=
  ∀ s : State, s.pending = [] → step s = .next { s with now := s.now + 1 }

/-- Every command of the table answers a next state from every state, none faults and none is refused, and it
leaves the commands that wait behind it as they are. -/
def Obligations.CommandsAnswerNext : Prop :=
  ∀ (c : Instr) (s : State), ∃ t, exec c s = .next t ∧ t.pending = s.pending

/-- Without main power, beside the battery monitor, whose reading the battery state follows (R182), three
commands act, a second of the clock, the retention latch and power-up: the model's choice (log entry 5). -/
def Obligations.PowerlessPartTakesThreeCommands : Prop :=
  ∀ (c : Instr) (s : State), s.powered = false → (∀ p, c ≠ .powerUp p) → (∀ b, c ≠ .batteryChange b) →
    c ≠ .secondEvent → c ≠ .retentionLatchSet → exec c s = .next s

/-! ### The newsroom link -/

/-- Every request that a line can be is read back from the line it is written as (R169, section 9.3). -/
def Obligations.RequestLineRoundTrip : Prop :=
  ∀ (r : Request) (line : Text), r.wellFormed = true → encodeLine r = some line →
    decodeLine (line.map some) false = r

/-- A carriage return with the line of a request in the buffer is that request's row (R167, R169). -/
def Obligations.CarriageReturnTakesRequest : Prop :=
  ∀ (r : Request) (line : Text) (s : State), r.wellFormed = true → encodeLine r = some line →
    s.powered = true → s.link.held = none → s.link.buffer = line.map some → s.link.long = false →
    exec (.characterReceived ⟨13#8, false⟩) s = exec r.toInstr s

/-- Checks 1 to 3 of R169: a long line, a line with an unprintable character, a leading, trailing or
doubled space, and a line whose first word is no request name; the reply of each. Within a line, decimal
digits with any leading zeros are their number (R170). -/
def Obligations.IllFormedLinesRefused : Prop :=
  ((∀ chars, decodeLine chars true = .invalidLine .long) ∧
   (∀ chars, none ∈ chars → decodeLine chars false = .invalidLine .illFormed) ∧
   (∀ line : Text, (line.head? = some ' ' ∨ line.getLast? = some ' ' ∨ [' ', ' '] <:+: line) →
     decodeLine (line.map some) false = .invalidLine .illFormed) ∧
   (∀ (name : Text) (args : List Text), wordOk name = true → (∀ w ∈ args, wordOk w = true) →
     (∀ n : ReqName, n.text ≠ name) →
     decodeLine ((joinWith ' ' (name :: args)).map some) false = .invalidLine .unknownName) ∧
   (∀ (w : BadLine) (s : State), s.takes →
     exec (.invalidLine w) s = .next (s.answered (.no (if w = .long then .long else .form))))) ∧
  (∀ n k : Nat, number? (List.replicate k '0' ++ Nat.toDigits 10 n) = some n)

/-- A received character that ends no line (R167), and the inter-character timer (R168). A CR or LF code that arrives
with a framing error is taken as an unprintable character: the model's choice (log entry 57). -/
def Obligations.InputBufferGathersLine : Prop :=
  (∀ s : State, s.powered = true → exec (.characterReceived ⟨10#8, false⟩) s = .next s) ∧
  (∀ (c : RxChar) (s : State), s.powered = true → (c.framing = true ∨ c.code ≠ 10#8) →
    s.link.held.isSome →
    exec (.characterReceived c) s = .next { s with link := { s.link with overrun := true } }) ∧
  (∀ s : State, s.powered = true → s.link.held = none → s.link.buffer = [] → s.link.long = false →
    exec (.characterReceived ⟨13#8, false⟩) s = .next s) ∧
  (∀ (c : RxChar) (s : State), s.powered = true → s.link.held = none →
    (c.framing = true ∨ (c.code ≠ 10#8 ∧ c.code ≠ 13#8)) → s.link.buffer.length < 120 →
    exec (.characterReceived c) s =
      .next
        { s with
          link :=
            { s.link with
              buffer := s.link.buffer ++
                [if c.framing = false ∧ 32 ≤ c.code.toNat ∧ c.code.toNat ≤ 126 then
                  some (Char.ofNat c.code.toNat) else none]
              lineTimer := some (s.now + 10000) } }) ∧
  (∀ (c : RxChar) (s : State), s.powered = true → s.link.held = none →
    (c.framing = true ∨ (c.code ≠ 10#8 ∧ c.code ≠ 13#8)) → 120 ≤ s.link.buffer.length →
    exec (.characterReceived c) s =
      .next { s with link := { s.link with long := true, lineTimer := some (s.now + 10000) } }) ∧
  (∀ (s : State) (m : Moment), s.powered = true → s.link.lineTimer = some m →
    exec .interCharacterTimeout s =
      .next
        { s with
          now := max s.now m
          link :=
            ({ s.link with buffer := [], long := false, lineTimer := none }.posted [.lnkDiscard]).pumped })

/-- What begins when a line ends (R171), a completed line that is held or lost, and the taking of a held line
once the waiting reply has begun, with `*LNK OVERRUN` where a character was lost (R169). -/
def Obligations.LinesSentHeldAndTaken : Prop :=
  ((∀ (s : State) (o : OutLine) (r : Reply), s.powered = true → s.link.sending = some o →
     s.link.held = none → s.link.waiting = some r →
     exec .lineSent s =
       .next { s with link := { s.link with sending := some (.reply r), waiting := none } }) ∧
   (∀ (s : State) (o : OutLine) (x : Report) (rest : List Report), s.powered = true →
     s.link.sending = some o → s.link.held = none → s.link.waiting = none → s.link.paused = false →
     s.link.reports = x :: rest →
     exec .lineSent s =
       .next { s with link := { s.link with sending := some (.report x), reports := rest } }) ∧
   (∀ (s : State) (o : OutLine), s.powered = true → s.link.sending = some o → s.link.held = none →
     s.link.waiting = none → (s.link.paused = true ∨ s.link.reports = []) →
     exec .lineSent s = .next { s with link := { s.link with sending := none } }) ∧
   (∀ (r : Request) (s : State), s.powered = true → s.link.held = none → s.link.waiting.isSome →
     s.link.sending.isSome →
     exec r.toInstr s =
       .next
         { s with
           link :=
             { s.link with
               buffer := []
               long := false
               lineTimer := none
               held := some r
               overrun := false } }) ∧
   (∀ (r : Request) (s : State), s.powered = true → s.link.held.isSome → s.link.sending.isSome →
     exec r.toInstr s = .next { s with link := { s.link with overrun := true } })) ∧
  (∀ (s : State) (o : OutLine) (w : Reply) (r : Request), s.powered = true → s.link.sending = some o →
     s.link.waiting = some w → s.link.held = some r →
     let u : State :=
       { s with
         link :=
           { s.link with
             sending := some (.reply w)
             waiting := none
             held := none
             overrun := false }.posted (if s.link.overrun then [.lnkOverrun] else []) }
     exec .lineSent s =
       .next
         { (ownerTakes r u).1 with
           link := { (ownerTakes r u).1.link with waiting := some (ownerTakes r u).2 } })

/-- A refused request changes no state of any block and posts no report; its reply is all there is
(R170). -/
def Obligations.RefusedRequestOnlyReplies : Prop :=
  (∀ (r : Request) (s : State) (c : Code), (ownerTakes r s).2 = .no c → (ownerTakes r s).1 = s) ∧
  (∀ (r : Request) (s : State) (c : Code), s.takes → s.link.buffer = [] → s.link.long = false →
    s.link.lineTimer = none → (ownerTakes r s).2 = .no c →
    exec r.toInstr s = .next (s.answered (.no c)))

/-! ### Requests that read -/

/-- LIST (R5) in the queue's order (R4); CLOCK, RECEIPT n, RECEIPT and SLIP read what is held (R185, R158,
R160); STATUS shows the part as it stands (R175), and REPORTS the report queue (R173). -/
def Obligations.QueueLogAndStatusRead : Prop :=
  ((∀ s : State, s.takes →
     exec (.list []) s =
       .next (s.answered (.list
         (((s.queue.jobs.filter fun j => j.priority == .flash) ++
             (s.queue.jobs.filter fun j => j.priority == .urgent) ++
             (s.queue.jobs.filter fun j => j.priority == .routine)).map
           fun j => (j.number, j.slug, j.priority, j.state))))) ∧
   (∀ jobs : List (Nat × Text × Priority × JobState),
     replyText (.list jobs) =
       joinWith ' '
         (["OK".toList, "LIST".toList, Nat.toDigits 10 jobs.length] ++
           jobs.flatMap fun p => [Nat.toDigits 10 p.1, p.2.1, p.2.2.1.text, p.2.2.2.text])) ∧
   (∀ (args : List Text) (s : State), s.takes → args ≠ [] →
     exec (.list args) s = .next (s.answered (.no .form)))) ∧
  ((∀ s : State, s.takes → exec .clockRead s = .next (s.answered (.clock s.backup.clock))) ∧
   (∀ (w : Text) (n : Nat) (r : Record) (s : State), s.takes → number? w = some n → 1 ≤ n → n ≤ 999 →
     (s.receipts.log.find? fun r => r.job == n) = some r →
     exec (.receiptRead [w]) s = .next (s.answered (.receipt r))) ∧
   (∀ (w : Text) (n : Nat) (s : State), s.takes → number? w = some n → 1 ≤ n → n ≤ 999 →
     (∀ r ∈ s.receipts.log, r.job ≠ n) →
     exec (.receiptRead [w]) s = .next (s.answered (.no .unknown))) ∧
   (∀ s : State, s.takes →
     exec .receiptList s =
       .next (s.answered (.receiptList
         (s.receipts.log.map fun r =>
           (r.job, if r.isOpen then .openRecord else if r.reclaimable then .free else .held))))) ∧
   (∀ s : State, s.takes →
     exec .slipRead s =
       .next (s.answered (.slipList (s.receipts.slips.map fun e => (e.job, e.pass, e.copies)))))) ∧
  ((∀ s : State, s.takes →
     exec (.status []) s =
       .next (s.answered (.status
         { drum := s.drive.drum
           speed :=
             match s.drive.drum with
             | .spinningUp => s.drive.target
             | .slewing => s.drive.target
             | .locking => s.drive.target
             | .locked => s.drive.lockedAt
             | .parked => none
             | .coasting => none
           lamp := s.drive.lamp
           temp := s.drive.temp
           cal := s.cal.state
           carriage := s.drive.carriage
           circ := s.sender.circ
           hold := (s.sender.pass.map (·.holdReason)).getD false
           brk := (s.sender.pass.map (·.breakReason)).getD false
           job := (s.queue.jobs.find? fun j => j.state != .queued).map (·.number)
           printer := s.receipts.printer
           battery := s.backup.battery
           clock := s.backup.clock
           waiting := s.link.reports.length
           overflow := s.link.overflow
           garble := s.circuit.garble }))) ∧
   (∀ s : State, s.takes →
     exec (.reportsRead []) s =
       .next (s.answered (.reports (!s.link.paused) s.link.reports.length s.link.overflow))) ∧
   (∀ (args : List Text) (s : State), s.takes → args ≠ [] →
     exec (.status args) s = .next (s.answered (.no .form)) ∧
     exec (.reportsRead args) s = .next (s.answered (.no .form))))

/-- STATION s and STATION (R91), and MASK alone (R95): the stations whose flags are set, ascending. -/
def Obligations.RosterAndMaskRead : Prop :=
  ((∀ (w : Text) (s : State), s.takes → number? w = none →
     exec (.stationRead w) s = .next (s.answered (.no .form))) ∧
   (∀ (w : Text) (n : Nat) (s : State), s.takes → number? w = some n → ¬ (1 ≤ n ∧ n ≤ 16) →
     exec (.stationRead w) s = .next (s.answered (.no .range))) ∧
   (∀ (w : Text) (n : Nat) (s : State), s.takes → number? w = some n → 1 ≤ n → n ≤ 16 →
     exec (.stationRead w) s =
       .next (s.answered (.stationRead n (s.station n).name (s.station n).masked))) ∧
   (∀ s : State, s.takes →
     exec .stationList s =
       .next (s.answered (.stationList
         ((List.range' 1 16).filterMap fun n => (s.station n).name.map fun x => (n, x))))) ∧
   (∀ (n : Nat) (name : Option Text) (masked : Bool),
     replyText (.stationRead n name masked) =
       joinWith ' '
         ["OK".toList, "STATION".toList, Nat.toDigits 10 n, name.getD "UNDEFINED".toList,
           if masked then "MASKED".toList else "UNMASKED".toList]) ∧
   (∀ l : List (Nat × Text),
     replyText (.stationList l) =
       joinWith ' '
         (["OK".toList, "STATION".toList, Nat.toDigits 10 l.length] ++
           l.flatMap fun p => [Nat.toDigits 10 p.1, p.2]))) ∧
  ((∀ s : State, s.takes →
     exec .maskRead s =
       .next (s.answered (.maskRead
         ((List.range' 1 16).filter fun n => (s.station n).masked)
         ((List.range' 1 16).filter fun n => (s.station n).maskPending)))) ∧
   (∀ a b : List Nat,
     replyText (.maskRead a b) =
       joinWith ' '
         ["OK".toList, "MASK".toList,
           "CURRENT=".toList ++
             (if a = [] then "NONE".toList else joinWith ',' (a.map (Nat.toDigits 10))),
           "PENDING=".toList ++
             (if b = [] then "NONE".toList else joinWith ',' (b.map (Nat.toDigits 10)))]))

/-! ### Requests that write -/

/-- CLEAR (R174): the overflow flag alone. REPORTS OFF and REPORTS ON (R173): the pause flag alone. -/
def Obligations.ReportsClearedAndPaused : Prop :=
  ((∀ s : State, s.takes →
     exec (.clear []) s =
       .next ({ s with link := { s.link with overflow := false } }.answered (.clear s.link.overflow))) ∧
   (∀ (args : List Text) (s : State), s.takes → args ≠ [] →
     exec (.clear args) s = .next (s.answered (.no .form))) ∧
   replyText (.clear true) = "OK CLEAR OVERFLOW".toList ∧ replyText (.clear false) = "OK CLEAR".toList) ∧
  (∀ s : State, s.takes →
     exec .reportsOff s =
       .next ({ s with link := { s.link with paused := true } }.answered .reportsOff) ∧
     exec .reportsOn s =
       .next ({ s with link := { s.link with paused := false } }.answered .reportsOn))

/-- STATION s NAME=x (R89): the checks in their order; defined or renamed, the rest of the roster and the part
unchanged. STATION s OFF (R90): the checks in their order; undefined, its mask flags kept. -/
def Obligations.StationDefinedAndUndefined : Prop :=
  (∀ (w name : Text) (n : Nat) (s : State), s.takes → number? w = some n → 1 ≤ n → n ≤ 16 →
     n ≤ s.settings.guarded.slots → name ≠ [] → name.length ≤ 6 →
     (∀ c ∈ name, isNameChar c = true) →
     (∀ k, 1 ≤ k → k ≤ 16 → k ≠ n → (s.station k).name ≠ some name) →
     exec (.stationDefine [w, "NAME=".toList ++ name]) s =
       .next
         ({ s with
             circuit :=
               { s.circuit with
                 roster := s.circuit.roster.modify (n - 1) fun e => { e with name := some name } } }.answered
           (if (s.station n).name.isSome then .stationRenamed n else .stationDefined n))) ∧
  ((∀ (args : List Text) (s : State), s.takes →
     (∀ w name, args = [w, "NAME=".toList ++ name] →
       ¬ (number? w ≠ none ∧ name ≠ [] ∧ name.length ≤ 6 ∧ ∀ c ∈ name, isNameChar c = true)) →
     exec (.stationDefine args) s = .next (s.answered (.no .form))) ∧
   (∀ (w name : Text) (n : Nat) (s : State), s.takes → number? w = some n → name ≠ [] → name.length ≤ 6 →
     (∀ c ∈ name, isNameChar c = true) →
     (¬ (1 ≤ n ∧ n ≤ 16) ∨ s.settings.guarded.slots < n →
       exec (.stationDefine [w, "NAME=".toList ++ name]) s = .next (s.answered (.no .range))) ∧
     (∀ k, 1 ≤ n → n ≤ 16 → n ≤ s.settings.guarded.slots → 1 ≤ k → k ≤ 16 → k ≠ n →
       (s.station k).name = some name →
       exec (.stationDefine [w, "NAME=".toList ++ name]) s = .next (s.answered (.no .duplicate)))) ∧
   (∀ n : Nat,
     replyText (.stationDefined n) =
       joinWith ' ' ["OK".toList, "STATION".toList, Nat.toDigits 10 n, "DEFINED".toList] ∧
     replyText (.stationRenamed n) =
       joinWith ' ' ["OK".toList, "STATION".toList, Nat.toDigits 10 n, "RENAMED".toList] ∧
     replyText (.stationOff n) =
       joinWith ' ' ["OK".toList, "STATION".toList, Nat.toDigits 10 n, "OFF".toList])) ∧
  ((∀ (w : Text) (s : State), s.takes → number? w = none →
     exec (.stationOff w) s = .next (s.answered (.no .form))) ∧
   (∀ (w : Text) (n : Nat) (s : State), s.takes → number? w = some n → ¬ (1 ≤ n ∧ n ≤ 16) →
     exec (.stationOff w) s = .next (s.answered (.no .range))) ∧
   (∀ (w : Text) (n : Nat) (s : State), s.takes → number? w = some n → 1 ≤ n → n ≤ 16 →
     (s.station n).name = none → exec (.stationOff w) s = .next (s.answered (.no .state))) ∧
   (∀ (w : Text) (n : Nat) (p : Pass) (s : State), s.takes → number? w = some n → 1 ≤ n → n ≤ 16 →
     (s.station n).name.isSome → s.sender.pass = some p → n ∈ p.stations →
     exec (.stationOff w) s = .next (s.answered (.no .busy))) ∧
   (∀ (w : Text) (n : Nat) (s : State), s.takes → number? w = some n → 1 ≤ n → n ≤ 16 →
     (s.station n).name.isSome → (∀ p, s.sender.pass = some p → n ∉ p.stations) →
     exec (.stationOff w) s =
       .next
         ({ s with
             circuit :=
               { s.circuit with
                 roster := s.circuit.roster.modify (n - 1) fun e =>
                   { e with name := none, silence := 0, noise := 0 } } }.answered (.stationOff n))))

/-- MASK +s and MASK -s (R93): the pending flag, copied into every current flag at once where rounds are
not running; any other form and a number outside 1 to 16 refused. -/
def Obligations.MaskChangeTaken : Prop :=
  (∀ (w : Text) (n : Nat) (on : Bool) (s : State), s.takes → number? w = some n → 1 ≤ n → n ≤ 16 →
    let pended := s.circuit.roster.modify (n - 1) fun e => { e with maskPending := on }
    let roster :=
      if s.circuit.rounds.isSome then pended else pended.map fun e => { e with masked := e.maskPending }
    let t : State := { s with circuit := { s.circuit with roster := roster } }
    exec (.maskChange [(if on then '+' else '-') :: w]) s =
      .next (t.answered (.maskChange on n s.circuit.rounds.isSome))) ∧
  (∀ (w : Text) (n : Nat) (on : Bool) (s : State), s.takes → number? w = some n → ¬ (1 ≤ n ∧ n ≤ 16) →
    exec (.maskChange [(if on then '+' else '-') :: w]) s = .next (s.answered (.no .range))) ∧
  (∀ (args : List Text) (s : State), s.takes →
    (∀ w, args = ['+' :: w] ∨ args = ['-' :: w] → number? w = none) →
    exec (.maskChange args) s = .next (s.answered (.no .form))) ∧
  (∀ (on : Bool) (n : Nat) (waits : Bool),
    replyText (.maskChange on n waits) =
      joinWith ' '
        (["OK".toList, "MASK".toList, (if on then '+' else '-') :: Nat.toDigits 10 n] ++
          if waits then ["PENDING".toList] else []))

/-- SET (R177): its seven stages in their order, every word checked in each; with every stage passed the
writable keys named take their values and are echoed in the order of the request, and nothing else changes, the
read-only keys named among it (R176). A word is split at its first equals sign, so a further one stands in the value,
under an unknown or read-only key too: the model's choice (log entry 54). GET (R179) of the keys named, or of all
nineteen in the order of the settings table, with its two stages. -/
def Obligations.SettingsWrittenAndRead : Prop :=
  let readOnly : List Key := [.temp, .gain, .version]
  let guarded : List Key :=
    [.white, .black, .phase, .rephase, .answer, .answerMax, .slots, .silence, .gather]
  let formed (k : Key) (v : Text) : Prop :=
    v ≠ [] ∧ (k ∉ readOnly → if k = .bureau then isName 12 v else isNumber v)
  let value (v : Text) : Nat := (number? v).getD 0
  let limits (k : Key) : Nat × Nat :=
    match k with
    | .white => (1000, 3000)
    | .black => (1000, 3000)
    | .phase => (10, 40)
    | .rephase => (4, 20)
    | .answer => (1, 4)
    | .answerMax => (3, 12)
    | .slots => (2, 16)
    | .silence => (3, 12)
    | .gather => (2, 6)
    | .idle => (0, 600)
    | .calDrift => (2, 20)
    | .holdMax => (1, 30)
    | .breakMax => (1, 30)
    | .copies => (0, 3)
    | .progress => (10, 500)
    | _ => (0, 0)
  let outside (p : Key × Text) : Prop :=
    p.1 ∉ readOnly ∧ p.1 ≠ .bureau ∧ ¬ (p.1 = .progress ∧ value p.2 = 0) ∧
      ¬ ((limits p.1).1 ≤ value p.2 ∧ value p.2 ≤ (limits p.1).2)
  ((∀ s : State, s.takes → exec (.setKeys []) s = .next (s.answered (.no .form))) ∧
   (∀ (args : List Text) (s : State), s.takes → (∃ w ∈ args, '=' ∉ w) →
     exec (.setKeys args) s = .next (s.answered (.no .form))) ∧
   (∀ (kvs : List (Text × Text)) (s : State), s.takes → (∀ p ∈ kvs, '=' ∉ p.1) →
     (∃ p ∈ kvs, p.1 = [] ∨ p.2 = [] ∨ ∃ k : Key, k.text = p.1 ∧ ¬ formed k p.2) →
     exec (.setKeys (kvs.map fun p => p.1 ++ '=' :: p.2)) s = .next (s.answered (.no .form))) ∧
   (∀ (kvs : List (Text × Text)) (s : State), s.takes →
     (∀ p ∈ kvs, '=' ∉ p.1 ∧ p.1 ≠ [] ∧ p.2 ≠ [] ∧ ∀ k : Key, k.text = p.1 → formed k p.2) →
     (∃ p ∈ kvs, ∀ k : Key, k.text ≠ p.1) →
     exec (.setKeys (kvs.map fun p => p.1 ++ '=' :: p.2)) s = .next (s.answered (.no .unknown)))) ∧
  (∀ (kvs : List (Key × Text)) (s : State), s.takes → kvs ≠ [] → (∀ p ∈ kvs, formed p.1 p.2) →
    let given (k : Key) (stored : Nat) : Nat := ((kvs.find? fun p => p.1 == k).map fun p => value p.2).getD stored
    let white := given .white s.settings.guarded.white
    let black := given .black s.settings.guarded.black
    let slots := given .slots s.settings.guarded.slots
    let refusal : Option Code :=
      if ¬ (kvs.map (·.1)).Nodup then some .duplicate
      else if ∃ p ∈ kvs, outside p then some .range
      else if |(white : Int) - black| < 400 then some .range
      else if ∃ n ∈ List.range' 1 16, slots < n ∧ (s.station n).name.isSome then some .range
      else if (∃ p ∈ kvs, p.1 ∈ guarded) ∧ ∃ j ∈ s.queue.jobs, j.state = .active then some .busy
      else none
    let args := kvs.map fun p => p.1.text ++ '=' :: p.2
    (∀ c, refusal = some c → exec (.setKeys args) s = .next (s.answered (.no c))) ∧
    (refusal = none →
      ∃ new : Settings,
        let t : State := { s with settings := new }
        let held (p : Key × Text) : KeyValue := if p.1 = .bureau then .word p.2 else .num (value p.2)
        exec (.setKeys args) s =
            .next (t.answered (.setKeys
              ((kvs.filter fun p => decide (p.1 ∉ readOnly)).map fun p => (p.1, held p)))) ∧
          (∀ p ∈ kvs, p.1 ∉ readOnly → t.keyValue p.1 = held p) ∧
          ∀ k : Key, (k ∈ readOnly ∨ ∀ p ∈ kvs, p.1 ≠ k) → t.keyValue k = s.keyValue k)) ∧
  ((∀ s : State, s.takes →
     exec (.getKeys []) s =
       .next (s.answered (.getKeys
         (([.white, .black, .phase, .rephase, .answer, .answerMax, .slots, .silence, .gather, .idle,
             .calDrift, .holdMax, .breakMax, .copies, .progress, .bureau, .temp, .gain, .version] :
             List Key).map fun k => (k, s.keyValue k))))) ∧
   (∀ (ks : List Key) (s : State), s.takes → ks ≠ [] → ks.Nodup →
     exec (.getKeys (ks.map Key.text)) s =
       .next (s.answered (.getKeys (ks.map fun k => (k, s.keyValue k))))) ∧
   (∀ (args : List Text) (s : State), s.takes → ((∃ w ∈ args, '=' ∈ w) ∨ ¬ args.Nodup) →
     exec (.getKeys args) s = .next (s.answered (.no .form))) ∧
   (∀ (args : List Text) (s : State), s.takes → (∀ w ∈ args, '=' ∉ w) → args.Nodup →
     (∃ w ∈ args, ∀ k : Key, k.text ≠ w) →
     exec (.getKeys args) s = .next (s.answered (.no .unknown))) ∧
   (∀ s : State, s.keyValue .temp = .num s.drive.temp ∧ s.keyValue .gain = .num s.cal.gain ∧
     s.keyValue .version = .word "PJ7-C".toList) ∧
   (∀ l : List (Key × KeyValue),
     replyText (.getKeys l) =
       joinWith ' '
         (["OK".toList, "GET".toList] ++
           l.map fun p =>
             p.1.text ++ '=' ::
               (match p.2 with
               | .num n => Nat.toDigits 10 n
               | .word w => w))))

/-- CURVE k v0,…,v16 (R61): the checks in their order, the forms of the words first, and the seventeen points
replaced together. CURVE k (R62): the seventeen points of curve 0 to 3. -/
def Obligations.CurvesLoadedAndRead : Prop :=
  ((∀ (w v : Text) (s : State), s.takes → (¬ isNumber w ∨ ¬ isNumberList v) →
     exec (.curveLoad [w, v]) s = .next (s.answered (.no .form))) ∧
   (∀ (args : List Text) (s : State), s.takes → 2 < args.length →
     exec (.curveLoad args) s = .next (s.answered (.no .form)))) ∧
  (∀ (w v : Text) (k : Nat) (points : List Nat) (s : State), s.takes → number? w = some k →
     numbers? v = some points →
     exec (.curveLoad [w, v]) s =
       .next
         (if points.length ≠ 17 then s.answered (.no .form)
         else if ¬ (1 ≤ k ∧ k ≤ 3) then s.answered (.no .range)
         else if ∃ p ∈ points, 255 < p then s.answered (.no .range)
         else if s.anyActive then s.answered (.no .busy)
         else
           { s with
               scan :=
                 { s.scan with
                   curve1 := if k = 1 then points else s.scan.curve1
                   curve2 := if k = 2 then points else s.scan.curve2
                   curve3 := if k = 3 then points else s.scan.curve3 } }.answered (.curveLoad k))) ∧
  ((∀ (w : Text) (k : Nat) (s : State), s.takes → number? w = some k → k ≤ 3 →
     exec (.curveRead [w]) s =
       .next (s.answered (.curveRead k
         (([curve0, s.scan.curve1, s.scan.curve2, s.scan.curve3] : List (List Nat)).getD k [])))) ∧
   (∀ (w : Text) (k : Nat) (s : State), s.takes → number? w = some k → 3 < k →
     exec (.curveRead [w]) s = .next (s.answered (.no .range))) ∧
   (∀ (w : Text) (s : State), s.takes → number? w = none →
     exec (.curveRead [w]) s = .next (s.answered (.no .form))) ∧
   (∀ s : State, s.takes → exec (.curveRead []) s = .next (s.answered (.no .form))) ∧
   (∀ (k : Nat) (points : List Nat),
     replyText (.curveRead k points) =
       joinWith ' ' ["OK".toList, "CURVE".toList, Nat.toDigits 10 k,
         joinWith ',' (points.map (Nat.toDigits 10))]))

/-! ### The Transmission Queue -/

/-- QUEUE (R1, R2): its seven checks in their order and the job record made. Check 1: a word that is not
key=value, a key not of the table or given twice, a key missing, a value not in its form. Then a line that names
every field in its form, PRI, CURVE and AT as they may be left out. The words stand in any order (section 1.2). -/
def Obligations.JobQueued : Prop :=
  let keys : List Text :=
    ["SLUG".toList, "PRI".toList, "LINES".toList, "PITCH".toList, "SPEED".toList, "CURVE".toList,
      "STN".toList, "AT".toList]
  let formed (k v : Text) : Prop :=
    if k = "SLUG".toList then isName 10 v
    else if k = "PRI".toList then v ∈ ["ROUTINE".toList, "URGENT".toList, "FLASH".toList]
    else if k = "STN".toList then isNumberList v
    else if k = "AT".toList then isTime v
    else isNumber v
  let two (n : Nat) : Text := [Char.ofNat (48 + n / 10), Char.ofNat (48 + n % 10)]
  let words (slug : Text) (pri : Option Priority) (n pitch speed : Nat) (curve : Option Nat)
      (stns : List Nat) (time : Option (Nat × Nat × Nat)) : List Text :=
    ["SLUG=".toList ++ slug, "LINES=".toList ++ Nat.toDigits 10 n, "PITCH=".toList ++ Nat.toDigits 10 pitch,
        "SPEED=".toList ++ Nat.toDigits 10 speed,
        "STN=".toList ++ joinWith ',' (stns.map (Nat.toDigits 10))] ++
      pri.toList.map (fun x => "PRI=".toList ++ x.text) ++
      curve.toList.map (fun k => "CURVE=".toList ++ Nat.toDigits 10 k) ++
      time.toList.map fun t => "AT=".toList ++ (two t.1 ++ ':' :: two t.2.1 ++ ':' :: two t.2.2)
  ((∀ (args : List Text) (s : State), s.takes → (∃ w ∈ args, '=' ∉ w) →
     exec (.queue args) s = .next (s.answered (.no .form))) ∧
   (∀ (kvs : List (Text × Text)) (s : State), s.takes → (∀ p ∈ kvs, '=' ∉ p.1) →
     ((∃ p ∈ kvs, p.1 ∉ keys) ∨ ¬ (kvs.map (·.1)).Nodup ∨
       (∃ k ∈ ["SLUG".toList, "LINES".toList, "PITCH".toList, "SPEED".toList, "STN".toList],
         ∀ p ∈ kvs, p.1 ≠ k) ∨
       ∃ p ∈ kvs, ¬ formed p.1 p.2) →
     exec (.queue (kvs.map fun p => p.1 ++ '=' :: p.2)) s = .next (s.answered (.no .form)))) ∧
  (∀ (slug : Text) (pri : Option Priority) (n pitch speed : Nat) (curve : Option Nat) (stns : List Nat)
     (time : Option (Nat × Nat × Nat)) (s : State), s.takes → isName 10 slug → stns ≠ [] →
     (∀ t ∈ time, t.1 < 100 ∧ t.2.1 < 100 ∧ t.2.2 < 100) →
     (pitch ∉ [100, 125, 150] ∨ speed ∉ [60, 90, 120] ∨ 3 < curve.getD 0 ∨ n < 50 ∨ 11 * pitch < n ∨
       (∃ k ∈ stns, k < 1 ∨ 16 < k) ∨ ∃ t ∈ time, 23 < t.1 ∨ 59 < t.2.1 ∨ 59 < t.2.2) →
     exec (.queue (words slug pri n pitch speed curve stns time)) s = .next (s.answered (.no .range))) ∧
  (∀ (slug : Text) (pri : Option Priority) (n : Nat) (p : Pitch) (v : Speed) (curve : Option Nat)
     (stns : List Nat) (time : Option (Nat × Nat × Nat)) (s : State), s.takes → isName 10 slug → stns ≠ [] →
     curve.getD 0 ≤ 3 → 50 ≤ n → n ≤ 11 * p.lpi → (∀ k ∈ stns, 1 ≤ k ∧ k ≤ 16) →
     (∀ t ∈ time, t.1 ≤ 23 ∧ t.2.1 ≤ 59 ∧ t.2.2 ≤ 59) →
     let m := s.drawnNumber
     let job : Job :=
       { number := m
         slug := slug
         priority := pri.getD .routine
         lines := n
         pitch := p
         speed := v
         curve := curve.getD 0
         stations := (List.range' 1 16).filter fun k => decide (k ∈ stns)
         release :=
           time.bind fun t => s.backup.clock.map fun c =>
             let sec := 3600 * t.1 + 60 * t.2.1 + t.2.2
             ⟨if c.sec ≤ sec then c.day else if c.day < 9999 then c.day + 1 else 1, sec⟩
         passNo := 1
         state := .queued
         pendingTrigger := false
         calTried := false }
     let t : State :=
       { s with
         queue := { s.queue with jobs := s.queue.jobs ++ [job] }
         backup := { s.backup with counter := if m < 999 then m + 1 else 1 } }
     exec (.queue (words slug pri n p.lpi v.rpm curve stns time)) s =
       .next
         (if ∃ k ∈ stns, (s.station k).name = none then s.answered (.no .range)
         else if ¬ stns.Nodup then s.answered (.no .duplicate)
         else if time.isSome ∧ s.backup.clock = none then s.answered (.no .state)
         else if ∃ j ∈ s.queue.jobs, j.slug = slug then s.answered (.no .duplicate)
         else if 8 ≤ s.queue.jobs.length then s.answered (.no .full)
         else t.answered (.queue m))) ∧
  (∀ (a b : List Text) (s : State), s.takes → a.Perm b → exec (.queue a) s = exec (.queue b) s)

/-- The job number drawn (R3): the first from the counter on, 1 following 999, that neither a job in the
queue nor a record in the log uses. -/
def Obligations.DrawnNumberIsFree : Prop :=
  ∀ s : State, s.queueBounded →
    ∃ k, s.drawnNumber = (s.backup.counter - 1 + k) % 999 + 1 ∧
      (∀ j ∈ s.queue.jobs, j.number ≠ s.drawnNumber) ∧ (∀ r ∈ s.receipts.log, r.job ≠ s.drawnNumber) ∧
      ∀ i < k,
        (∃ j ∈ s.queue.jobs, j.number = (s.backup.counter - 1 + i) % 999 + 1) ∨
          ∃ r ∈ s.receipts.log, r.job = (s.backup.counter - 1 + i) % 999 + 1

/-- Checks 1 to 3 of R9, which MOUNT, START (R12), HOLD, GO and KILL (R23) make alike: one decimal number, in 1
to 999, of a job in the queue. Check 4 of MOUNT. MOUNT (R9) of a job whose binding check (R8) does not release it:
bound in place of the MOUNTED one; and of one whose check releases it, by its release time or by its pending
trigger, while the drum approaches its lock and the lamp warms: the wants raised (R17), `*LOAD`, `*RELEASE` and then
`*WAIT` (R15, R19). -/
def Obligations.JobMounted : Prop :=
  (let refused (args : List Text) (s : State) (c : Code) : Prop :=
     exec (.mount args) s = .next (s.answered (.no c)) ∧ exec (.start args) s = .next (s.answered (.no c)) ∧
       exec (.hold args) s = .next (s.answered (.no c)) ∧ exec (.go args) s = .next (s.answered (.no c)) ∧
       exec (.kill args) s = .next (s.answered (.no c))
   (∀ (args : List Text) (s : State), s.takes → (args.length = 1 → ∀ w ∈ args, ¬ isNumber w) →
     refused args s .form) ∧
   (∀ (w : Text) (n : Nat) (s : State), s.takes → number? w = some n → ¬ (1 ≤ n ∧ n ≤ 999) →
     refused [w] s .range) ∧
   (∀ (w : Text) (n : Nat) (s : State), s.takes → number? w = some n → 1 ≤ n → n ≤ 999 →
     (∀ j ∈ s.queue.jobs, j.number ≠ n) → refused [w] s .unknown)) ∧
  ∀ (w : Text) (n : Nat) (j : Job) (s : State), s.takes → number? w = some n → 1 ≤ n → n ≤ 999 →
    (s.queue.jobs.find? fun k => k.number == n) = some j →
    ((s.queue.load = .coverOpen ∨ j.state ≠ .queued ∨
        (s.queue.load = .bound ∧
          ∀ m, (s.queue.jobs.find? fun k => k.state != .queued) = some m → m.state ≠ .mounted)) →
      exec (.mount [w]) s = .next (s.answered (.no .state))) ∧
    (s.resting → s.queue.load ≠ .coverOpen → j.state = .queued →
      (s.queue.load = .unbound ∨
        ∃ m, (s.queue.jobs.find? fun k => k.state != .queued) = some m ∧ m.state = .mounted) →
      (s.timeReached j = false → (j.pendingTrigger = false ∨ j.release.isSome) →
        let t : State :=
          { s with
            link := s.link.posted [.load n]
            queue :=
              { s.queue with
                load := .bound
                jobs := s.queue.jobs.map fun k =>
                  if k.number = n then { k with state := .mounted }
                  else if k.state = .mounted then { k with state := .queued }
                  else k } }
        exec (.mount [w]) s = .next (t.answered (.mount n false))) ∧
      (∀ why, (why = .time ∧ s.timeReached j = true) ∨
          (why = .pending ∧ j.pendingTrigger = true ∧ j.release = none) →
        s.drive.lamp = .warming →
        (s.drive.drum = .spinningUp ∨ s.drive.drum = .slewing ∨ s.drive.drum = .locking) →
        let causes :=
          [if s.drive.pendingStart then Cause.budget else .drum, .lamp] ++
            (if s.cal.state = .fresh then [] else [.cal]) ++
            (if s.sender.circ = .free then [] else [.circuit]) ++
            (if 1 < j.passNo ∨ s.receipts.log.length < 16 ∨ ∃ r ∈ s.receipts.log, r.reclaimable = true then []
              else [.log])
        let t : State :=
          { s with
            link := s.link.posted [.load n, .release n why, .wait n causes]
            queue :=
              { load := .bound
                missing := causes
                jobs := s.queue.jobs.map fun k =>
                  if k.number = n then
                    { k with state := .released, pendingTrigger := false, calTried := false }
                  else if k.state = .mounted then { k with state := .queued }
                  else k }
            drive := { s.drive with queueWant := some j.speed, idleTimer := none } }
        exec (.mount [w]) s = .next (t.answered (.mount n true))))

/-- START by the state of the job (R12): a QUEUED one takes its pending trigger; a MOUNTED one is RELEASED, here
while the drum approaches its lock and the lamp warms: the wants raised (R15, R17), `*RELEASE` and then `*WAIT` with
the missing causes in their order (R19); any other, and one whose release time is not reached, is refused. -/
def Obligations.JobTriggered : Prop :=
  ∀ (w : Text) (n : Nat) (j : Job) (s : State), s.takes → number? w = some n → 1 ≤ n → n ≤ 999 →
    (s.queue.jobs.find? fun k => k.number == n) = some j →
    (j.state = .queued →
      let t : State :=
        { s with
          queue :=
            { s.queue with
              jobs := s.queue.jobs.map fun k => if k.number = n then { k with pendingTrigger := true } else k } }
      exec (.start [w]) s = .next (t.answered (.start n false))) ∧
    (s.resting → j.state = .mounted → (∀ r, j.release = some r → reached s.backup.clock r = true) →
      s.queue.load ≠ .coverOpen → s.drive.lamp = .warming →
      (s.drive.drum = .spinningUp ∨ s.drive.drum = .slewing ∨ s.drive.drum = .locking) →
      let causes :=
        [if s.drive.pendingStart then Cause.budget else .drum, .lamp] ++
          (if s.cal.state = .fresh then [] else [.cal]) ++
          (if s.sender.circ = .free then [] else [.circuit]) ++
          (if 1 < j.passNo ∨ s.receipts.log.length < 16 ∨ ∃ r ∈ s.receipts.log, r.reclaimable = true then []
            else [.log])
      let t : State :=
        { s with
          link := s.link.posted [.release n .start, .wait n causes]
          queue :=
            { s.queue with
              missing := causes
              jobs := s.queue.jobs.map fun k =>
                if k.number = n then
                  { k with state := .released, pendingTrigger := false, calTried := false }
                else k }
          drive := { s.drive with queueWant := some j.speed, idleTimer := none } }
      exec (.start [w]) s = .next (t.answered (.start n true))) ∧
    ((j.state = .released ∨ j.state = .active ∨ j.state = .finished ∨
        (j.state = .mounted ∧ ∃ r, j.release = some r ∧ reached s.backup.clock r = false)) →
      exec (.start [w]) s = .next (s.answered (.no .state)))

/-- The start (R16, R20): with every condition met the released job is ACTIVE at once, its record or pass
opened (R154, R155), the Scan Unit and the Sender given the pass (R52, R110, R178), the mask applied and
rounds begun (R94, R98), and the call-up begun (R113). -/
def Obligations.ReadyJobStarts : Prop :=
  ∀ (w : Text) (n : Nat) (j : Job) (s : State), s.takes → s.resting → number? w = some n → 1 ≤ n →
    n ≤ 999 → (s.queue.jobs.find? fun k => k.number == n) = some j → j.state = .mounted →
    j.release = none → j.passNo = 1 → s.queue.load ≠ .coverOpen → s.drive.drum = .locked →
    s.drive.lockedAt = some j.speed → s.drive.lamp = .ready → s.cal.state = .fresh → s.sender.circ = .free →
    s.receipts.log.length < 16 →
    (∃ k ∈ j.stations, (s.station k).name.isSome ∧ (s.station k).maskPending = false) →
    ∃ t, exec (.start [w]) s = .next t ∧
      t.queue.jobs =
        (s.queue.jobs.map fun k =>
          if k.number = n then { k with state := .active, pendingTrigger := false, calTried := false }
          else k) ∧
      t.receipts.log =
        s.receipts.log ++
          [{ job := n
             slug := j.slug
             priority := j.priority
             pitch := j.pitch
             speed := j.speed
             lines := j.lines
             isOpen := true
             passes := [⟨1, j.stations, s.backup.clock, none⟩] }] ∧
      t.scan.wr = s.cal.w0 ∧ t.scan.br = s.cal.b0 ∧
      (∃ x, t.scan.pass = some x ∧ x.job = n ∧ x.curve = j.curve ∧ x.pitch = j.pitch ∧
        x.lines = j.lines ∧ x.nextLine = 1 ∧ x.line = none) ∧
      t.circuit.roster =
        (s.circuit.roster.map fun e =>
          { e with masked := e.maskPending, silence := 0, noise := 0 }) ∧
      (∃ r, t.circuit.rounds = some r ∧ r.slots = s.settings.guarded.slots ∧ r.round = 1 ∧ r.slot = 0 ∧
        r.slotEnds = s.now + 250) ∧
      t.sender.circ = .callup ∧
      (∃ p, t.sender.pass = some p ∧ p.job = n ∧ p.number = 1 ∧ p.stations = j.stations ∧
        p.lines = j.lines ∧ p.speed = j.speed ∧ p.sent = 0 ∧ p.copy = s.settings.guarded ∧ p.detached = false ∧
        p.outcome = none ∧
        p.party.map (·.station) = j.stations ∧
        (∀ e ∈ p.party, e.name = (s.station e.station).name ∧
          e.state =
            if (s.station e.station).name = none then .absent
            else if (s.station e.station).maskPending then .masked
            else .invited) ∧
        ∃ called : List Nat,
          called = (p.party.filter fun e => e.state == .invited).map (·.station) ∧
          t.sender.tone = .callup called s.now ∧
          t.sender.signalEnds = some (s.now + (2000 + 500 * called.length))) ∧
      t.drive.queueWant = some j.speed ∧ t.drive.stepFaults = 0 ∧
      (s.drive.carriage = .home → t.drive.carriage = .home) ∧
      (s.drive.carriage = .unhomed ∨ s.drive.carriage = .stepping →
        t.drive.carriage = .returning ∧ t.drive.returnTimer = some (s.now + 3000)) ∧
      t.link = ((s.link.posted [.release n .start, .start n 1]).answered (.start n true)) ∧
      t.settings = s.settings ∧ t.backup = s.backup ∧ t.cal = s.cal ∧ t.now = s.now

/-- HOLD (R135): what each state of the pass makes of it, its deadline (R143), the pause that takes effect at
once (R136) and its output (R139). GO (R138): refused without HOLD in the set; HOLD and its deadline removed
from a pending pause, from a pause that BREAK or an index mark still holds, and from one that resumes at once. -/
def Obligations.HoldAndGoTaken : Prop :=
  (∀ (w : Text) (n : Nat) (j : Job) (p : Pass) (s : State), s.takes → number? w = some n → 1 ≤ n →
     n ≤ 999 → (s.queue.jobs.find? fun k => k.number == n) = some j → s.sender.pass = some p →
     let held : Pass :=
       { p with holdReason := true, holdDeadline := some (s.now + 60000 * s.settings.holdMax) }
     let pended : State := { s with sender := { s.sender with pass := some { held with pausePending := true } } }
     let tone : Tone := if p.breakReason then .silent else .steady p.copy.white
     let paused : State :=
       { s with
         link := s.link.posted [.pause p.job true p.breakReason]
         sender :=
           { circ := .paused
             pass := some { held with pausePending := false, resume := some .rephase, line := none }
             tone := tone
             signalEnds := none } }
     let still : State :=
       { s with
         link := s.link.posted [.pause p.job true p.breakReason]
         sender := { s.sender with pass := some held, tone := tone } }
     exec (.hold [w]) s =
       .next
         (if j.state ≠ .active then s.answered (.no .state)
         else
           match s.sender.circ with
           | .phasing =>
             if p.pausePending ∧ p.holdReason then s.answered (.no .state)
             else pended.answered (.hold n false)
           | .picture =>
             if p.line.isSome ∧ p.sent + 1 = p.lines then s.answered (.no .late)
             else if p.pausePending ∧ p.holdReason then s.answered (.no .state)
             else if p.pausePending ∨ p.line.isSome then pended.answered (.hold n false)
             else paused.answered (.hold n true)
           | .paused =>
             if p.holdReason ∨ ¬ (p.resume = some .rephase ∨ p.resume = some .phasing) then
               s.answered (.no .state)
             else still.answered (.hold n true)
           | _ => s.answered (.no .state))) ∧
  (∀ (w : Text) (n : Nat) (j : Job) (p : Pass) (s : State), s.takes → s.resting → number? w = some n →
     1 ≤ n → n ≤ 999 → (s.queue.jobs.find? fun k => k.number == n) = some j → s.sender.pass = some p →
     let gone : Pass := { p with holdReason := false, holdDeadline := none }
     ((j.state ≠ .active ∨ p.holdReason = false) → exec (.go [w]) s = .next (s.answered (.no .state))) ∧
     (j.state = .active → p.holdReason = true → s.sender.circ ≠ .paused →
       let t : State :=
         { s with
           sender :=
             { s.sender with
               pass := some { gone with pausePending := p.breakReason && p.pausePending } } }
       exec (.go [w]) s = .next (t.answered (.go n))) ∧
     (j.state = .active → p.holdReason = true → s.sender.circ = .paused → p.breakReason = true →
       let t : State :=
         { s with
           link := s.link.posted [.pause p.job false true]
           sender := { s.sender with pass := some gone, tone := .silent } }
       exec (.go [w]) s = .next (t.answered (.go n))) ∧
     (j.state = .active → p.holdReason = true → s.sender.circ = .paused → p.breakReason = false →
       (p.resume = some .rephase ∨ p.resume = some .phasing) →
       let t : State :=
         { s with sender := { s.sender with pass := some gone, tone := .steady p.copy.white } }
       exec (.go [w]) s = .next (t.answered (.go n))) ∧
     (j.state = .active → p.holdReason = true → s.sender.circ = .paused → p.breakReason = false →
       p.resume = some .gathering →
       let t : State :=
         { s with
           link := s.link.posted [.resume p.job .gathering]
           sender :=
             { circ := .gathering
               pass := some { gone with resume := none }
               tone := .silent
               signalEnds := none } }
       exec (.go [w]) s = .next (t.answered (.go n))))

/-- KILL (R145): a job not yet started removed (R24), the print of a MOUNTED or RELEASED one unbound and the
wants of a RELEASED one withdrawn; a pass of which nothing was sent, or under a break, closed at once; a pass
being sent put into KILLING (R146) with scanning ended (R72); a pass sent in full or already killed refused as
late, a finished job refused. -/
def Obligations.KillTaken : Prop :=
  ∀ (w : Text) (n : Nat) (j : Job) (s : State), s.takes →
    (s.receipts.printer = .ready → s.receipts.slips = []) → number? w = some n → 1 ≤ n → n ≤ 999 →
    (s.queue.jobs.find? fun k => k.number == n) = some j →
    let log :=
      s.receipts.log.map fun r =>
        if r.job = n ∧ ∀ e ∈ r.passes, e.close.isSome then { r with isOpen := false } else r
    let removed : State := { s with receipts := { s.receipts with log := log } }
    let left := s.queue.jobs.filter fun k => k.number != n
    (j.state = .queued → s.releasedJob = none →
      let t : State := { removed with queue := { s.queue with jobs := left } }
      exec (.kill [w]) s = .next (t.answered (.kill n true))) ∧
    (j.state = .mounted → s.releasedJob = none → s.queue.load ≠ .coverOpen → s.drive.queueWant = none →
      let t : State :=
        { removed with queue := ⟨left, .unbound, []⟩, link := s.link.posted [.loadUnbound] }
      exec (.kill [w]) s = .next (t.answered (.kill n true))) ∧
    (j.state = .released → (∀ k ∈ s.queue.jobs, k.state = .released → k.number = n) →
      s.queue.load ≠ .coverOpen → s.drive.queueWant.isSome → s.drive.calWant = none →
      s.settings.idle ≠ 0 →
      let t : State :=
        { removed with
          queue := ⟨left, .unbound, []⟩
          link := s.link.posted [.loadUnbound]
          drive :=
            { s.drive with
              queueWant := none
              faultHold := false
              pendingStart := false
              idleTimer := some (s.now + 1000 * s.settings.idle) } }
      exec (.kill [w]) s = .next (t.answered (.kill n true))) ∧
    (∀ p, j.state = .active → s.releasedJob = none → s.sender.pass = some p → p.job = n →
      p.detached = false → s.unsent p ∨ (s.midPicture p ∧ p.breakReason = true) → s.holdsJob p →
      ∃ t, exec (.kill [w]) s = .next t ∧ t.now = s.now ∧ s.closes t p .killed ∧
        t.link = (s.link.posted (p.endReports .killed none)).answered (.kill n false)) ∧
    (∀ p, j.state = .active → s.releasedJob = none → s.sender.pass = some p → p.breakReason = false →
      s.midPicture p →
      let t : State :=
        { s with
          scan :=
            match s.scan.pass with
            | none => s.scan
            | some x =>
              if x.ended then s.scan
              else { s.scan with store := [], pass := some { x with line := none, ended := true } }
          sender :=
            { circ := .killing
              pass := some
                { p with
                  outcome := some .killed
                  reason := none
                  holdReason := false
                  breakReason := false
                  pausePending := false
                  resume := none
                  holdDeadline := none
                  breakDeadline := none
                  line := none }
              tone := .kill s.now
              signalEnds := some (s.now + 3000) } }
      exec (.kill [w]) s = .next (t.answered (.kill n false))) ∧
    (∀ p, j.state = .active → s.sender.pass = some p → s.sentInFull p ∨ s.sender.circ = .killing →
      exec (.kill [w]) s = .next (s.answered (.no .late))) ∧
    (j.state = .finished → exec (.kill [w]) s = .next (s.answered (.no .state)))

/-- REPEAT (R22): its seven checks in their order, and the entry of a FINISHED job to RELEASED for the next pass,
here with the drum approaching its lock and the lamp warming. -/
def Obligations.RepeatTaken : Prop :=
  ((∀ (args : List Text) (s : State), s.takes →
     (∀ w v, args = [w, "STN=".toList ++ v] → ¬ (isNumber w ∧ isNumberList v)) →
     exec (.repeatPass args) s = .next (s.answered (.no .form))) ∧
   (∀ (w : Text) (n : Nat) (stns : List Nat) (s : State), s.takes → number? w = some n → stns ≠ [] →
     let line := [w, "STN=".toList ++ joinWith ',' (stns.map (Nat.toDigits 10))]
     (¬ (1 ≤ n ∧ n ≤ 999) → exec (.repeatPass line) s = .next (s.answered (.no .range))) ∧
     (1 ≤ n → n ≤ 999 → (∀ j ∈ s.queue.jobs, j.number ≠ n) →
       exec (.repeatPass line) s = .next (s.answered (.no .unknown))) ∧
     (∀ j, 1 ≤ n → n ≤ 999 → (s.queue.jobs.find? fun k => k.number == n) = some j →
       let refusal : Option Code :=
         if j.state ≠ .finished then some .state
         else if ∃ k ∈ stns, k < 1 ∨ 16 < k ∨ (s.station k).name = none then some .range
         else if ¬ stns.Nodup then some .duplicate
         else if 4 ≤ j.passNo then some .full
         else none
       ∀ c, refusal = some c → exec (.repeatPass line) s = .next (s.answered (.no c))))) ∧
  ∀ (w : Text) (n : Nat) (j : Job) (stns : List Nat) (s : State), s.takes → s.resting →
    number? w = some n → 1 ≤ n → n ≤ 999 → (s.queue.jobs.find? fun k => k.number == n) = some j →
    j.state = .finished → stns ≠ [] → (∀ k ∈ stns, 1 ≤ k ∧ k ≤ 16 ∧ (s.station k).name.isSome) →
    stns.Nodup → j.passNo ≤ 3 → s.queue.load ≠ .coverOpen → s.drive.lamp = .warming →
    (s.drive.drum = .spinningUp ∨ s.drive.drum = .slewing ∨ s.drive.drum = .locking) →
    let causes :=
      [if s.drive.pendingStart then Cause.budget else .drum, .lamp] ++
        (if s.cal.state = .fresh then [] else [.cal]) ++
        (if s.sender.circ = .free then [] else [.circuit]) ++
        (if 0 < j.passNo ∨ s.receipts.log.length < 16 ∨ ∃ r ∈ s.receipts.log, r.reclaimable = true then []
          else [.log])
    let t : State :=
      { s with
        link := s.link.posted [.release n .repeatPass, .wait n causes]
        queue :=
          { s.queue with
            missing := causes
            jobs := s.queue.jobs.map fun k =>
              if k.number = n then
                { k with
                  state := .released
                  pendingTrigger := false
                  calTried := false
                  passNo := k.passNo + 1
                  stations := (List.range' 1 16).filter fun x => decide (x ∈ stns) }
              else k }
        drive := { s.drive with queueWant := some j.speed, idleTimer := none } }
    exec (.repeatPass [w, "STN=".toList ++ joinWith ',' (stns.map (Nat.toDigits 10))]) s =
      .next (t.answered (.repeatPass n (j.passNo + 1)))

/-- CAL (R83, R76): its refusals, a request already held, and a request raised with its want, at the locked or the
target speed, or at 60 rpm with the drum PARKED or COASTING. The want is served (R34): the lamp switched on from OFF
under a closed cover, and left in FAULT (R45, R46); a drum at rest started (R35), deferred with six starts in the
last 15 minutes (R36, R37), or left at rest under an open cover, in the fault hold and with a start pending.
CAL DEFAULT (R84). -/
def Obligations.CalibrationAsked : Prop :=
  ∀ s : State, s.takes →
    ((s.anyActive = true ∨ s.cal.state = .running) →
      exec (.cal []) s = .next (s.answered (.no .busy)) ∧
      exec .calDefault s = .next (s.answered (.no .busy))) ∧
    (∀ args, args ≠ [] → exec (.cal args) s = .next (s.answered (.no .form))) ∧
    (s.anyActive = false → s.cal.state ≠ .running → s.cal.request = true →
      exec (.cal []) s = .next (s.answered .cal)) ∧
    (s.anyActive = false → s.cal.state ≠ .running → s.cal.request = false →
      let lit := s.drive.lamp = .off ∧ s.queue.load ≠ .coverOpen
      let cal : Calib := { s.cal with request := true }
      let served (v : Speed) : Drive :=
        { s.drive with
          calWant := some v
          idleTimer := none
          lamp := if lit then .warming else s.drive.lamp
          warmTimer := if lit then some (s.now + 60000) else s.drive.warmTimer }
      (∀ v,
        ((s.drive.drum = .locked ∧ s.drive.lockedAt = some v ∧
            (s.drive.queueWant = none ∨ s.drive.queueWant = some v)) ∨
          (s.drive.target = some v ∧
            (s.drive.drum = .spinningUp ∨ s.drive.drum = .slewing ∨ s.drive.drum = .locking))) →
        let t : State := { s with cal := cal, drive := served v }
        exec (.cal []) s = .next (t.answered .cal)) ∧
      (s.drive.drum = .parked ∨ s.drive.drum = .coasting →
        let young := s.drive.spinUps.filter fun m => decide (s.now < m + 900000)
        let v := s.drive.queueWant.getD .s60
        (s.queue.load = .coverOpen ∨ s.drive.faultHold = true ∨ s.drive.pendingStart = true →
          let t : State := { s with cal := cal, drive := served .s60 }
          exec (.cal []) s = .next (t.answered .cal)) ∧
        (s.queue.load ≠ .coverOpen → s.drive.faultHold = false → s.drive.pendingStart = false →
          (young.length < 6 → (∀ m ∈ young, m < s.now) →
            let t : State :=
              { s with
                link := s.link.posted [.drum .spinningUp (some v)]
                cal := cal
                drive :=
                  { served .s60 with
                    spinUps := young ++ [s.now]
                    drum := .spinningUp
                    target := some v
                    lockedAt := none
                    approach := some .spin
                    lockCount := 0
                    lossCount := 0
                    lockTimer := some (s.now + 20000)
                    marked := false } }
            exec (.cal []) s = .next (t.answered .cal)) ∧
          (∀ m rest, young = m :: rest → 6 ≤ young.length →
            let t : State :=
              { s with
                link := s.link.posted [.drumDefer ((m + 900000 - s.now + 999) / 1000)]
                cal := cal
                drive := { served .s60 with spinUps := young, pendingStart := true } }
            exec (.cal []) s = .next (t.answered .cal))))) ∧
    (s.resting → s.anyActive = false → s.cal.state ≠ .running →
      let t : State :=
        { s with cal := { s.cal with state := .none, gain := 32, w0 := 3600, b0 := 400, tcal := none } }
      exec .calDefault s = .next (t.answered .calDefault))

/-- CLOCK with a time and a day (R185): accepted at any time, the clock set and a new second begun. -/
def Obligations.ClockSet : Prop :=
  ∀ (w d : Text) (h m sec day : Nat) (s : State), s.takes → time? w = some (h, m, sec) →
    number? d = some day →
    let t : State :=
      { s with
        backup :=
          { s.backup with
            clock := some ⟨day, 3600 * h + 60 * m + sec⟩
            secondEnds := s.now + 1000 } }
    exec (.clockSet [w, d]) s =
      .next
        (if h ≤ 23 ∧ m ≤ 59 ∧ sec ≤ 59 ∧ 1 ≤ day ∧ day ≤ 9999 then
          t.answered (.clock (some ⟨day, 3600 * h + 60 * m + sec⟩))
        else s.answered (.no .range))

/-- SLIP n p and SLIP n, which means the latest pass (R160): the checks in their order; one more copy of a pass that
has an entry; a new entry, the newest, for one that has none, which begins at once with the printer READY (R162). -/
def Obligations.SlipCopyAsked : Prop :=
  ((∀ (args : List Text) (s : State), s.takes → (2 < args.length ∨ ∃ w ∈ args, ¬ isNumber w) →
     exec (.slipRequest args) s = .next (s.answered (.no .form))) ∧
   (∀ (w : Text) (n : Nat) (s : State), s.takes → number? w = some n →
     (¬ (1 ≤ n ∧ n ≤ 999) → exec (.slipRequest [w]) s = .next (s.answered (.no .range))) ∧
     (1 ≤ n → n ≤ 999 → (∀ r ∈ s.receipts.log, r.job ≠ n) →
       exec (.slipRequest [w]) s = .next (s.answered (.no .unknown))) ∧
     ∀ (v : Text) (p : Nat), number? v = some p →
       (¬ (1 ≤ n ∧ n ≤ 999 ∧ 1 ≤ p ∧ p ≤ 4) →
         exec (.slipRequest [w, v]) s = .next (s.answered (.no .range))) ∧
       (1 ≤ n → n ≤ 999 → 1 ≤ p → p ≤ 4 →
         (∀ r, (s.receipts.log.find? fun r => r.job == n) = some r → ∀ e ∈ r.passes, e.number ≠ p) →
         exec (.slipRequest [w, v]) s = .next (s.answered (.no .unknown))))) ∧
  ∀ (args : List Text) (w : Text) (n p : Nat) (r : Record) (e : PassEntry) (s : State), s.takes →
    number? w = some n → 1 ≤ n → n ≤ 999 → (s.receipts.log.find? fun r => r.job == n) = some r →
    (r.passes.find? fun e => e.number == p) = some e →
    ((args = [w] ∧ r.passes.getLast? = some e) ∨
      ∃ v, args = [w, v] ∧ number? v = some p ∧ 1 ≤ p ∧ p ≤ 4) →
    (e.close = none → exec (.slipRequest args) s = .next (s.answered (.no .state))) ∧
    (∀ x, e.close.isSome → (s.receipts.slips.find? fun x => x.job == n && x.pass == p) = some x →
      let t : State :=
        { s with
          receipts :=
            { s.receipts with
              slips := s.receipts.slips.map fun y =>
                if y.job = n ∧ y.pass = p then { y with copies := y.copies + 1 } else y } }
      exec (.slipRequest args) s =
        .next
          (if x.copies < 9 then t.answered (.slip n p (x.copies + 1)) else s.answered (.no .full))) ∧
    (∀ c, s.resting → e.close = some c → (∀ x ∈ s.receipts.slips, ¬ (x.job = n ∧ x.pass = p)) →
      let log (st : SlipState) : List Record :=
        s.receipts.log.map fun r =>
          if r.job = n then
            { r with passes := r.passes.map fun e =>
                if e.number = p then { e with close := e.close.map fun c => { c with slip := st } } else e }
          else r
      (s.receipts.printer ≠ .ready →
        let t : State :=
          { s with
            receipts :=
              { s.receipts with slips := s.receipts.slips ++ [⟨n, p, 1, false⟩], log := log .pending } }
        exec (.slipRequest args) s = .next (t.answered (.slip n p 1))) ∧
      (s.receipts.printer = .ready →
        let t : State :=
          { s with
            receipts :=
              { s.receipts with
                slips := [⟨n, p, 1, false⟩]
                log := log .printing
                printer := .printing
                printing := some ⟨slipLines s.settings.bureau false r e c, s.now + 300⟩ } }
        exec (.slipRequest args) s = .next (t.answered (.slip n p 1))))

/-- RESET (R181, R188): what each block is left with, from every state in which it is taken. The pass in progress is
completed with outcome FAILED and reason RESET, or with the outcome decided in KILLING and RESET as its secondary
reason where none is recorded (R148, R156), and queues its slip; every record closes; a slip being printed is cut,
its pass PENDING and its entry marked for reprint; the oldest entry then begins where paper is present (R165). Two
clauses are the model's reading: `*DRUM COASTING` is posted only where the motor was on, where R50 excepts only
PARKED (log entry 15), and the revolution in progress keeps its sample positions (log entry 19). -/
def Obligations.ResetRestartsPart : Prop :=
  ∀ s : State, s.takes → (s.sender.pass = none → s.scan.pass = none) →
    ∃ t, exec (.reset []) s = .next t ∧
      t.link =
        (({ s.link with reports := [], overflow := false, paused := false } : Link).posted
          ((if s.drive.drum.motorOn then [.drum .coasting none] else []) ++
            match s.sender.pass with
            | none => []
            | some p =>
              [.passEnd p.job p.number (p.outcome.getD .failed)
                (if p.outcome = none then some .reset else p.reason)])).answered .reset ∧
      t.queue =
        ⟨[], if s.queue.load = .coverOpen then .coverOpen else .unbound, []⟩ ∧
      t.drive =
        { s.drive with
          drum := if s.drive.drum = .parked then .parked else .coasting
          target := none
          lockedAt := none
          approach := none
          lockCount := 0
          lossCount := 0
          lockTimer := none
          faultHold := false
          marked := false
          queueWant := none
          calWant := none
          pendingStart := false
          idleTimer := none
          carriage :=
            if s.drive.carriage = .returning ∨ s.drive.stepWaiting then .unhomed else s.drive.carriage
          position :=
            if s.drive.carriage = .returning ∨ s.drive.stepWaiting then none else s.drive.position
          stepWaiting := false
          stepFaults := 0
          returnTimer :=
            if s.drive.carriage = .returning ∨ s.drive.stepWaiting then none else s.drive.returnTimer
          lamp := .off
          warmTimer := none } ∧
      t.cal =
        { s.cal with
          state :=
            (let saved := (s.cal.run.map (·.savedState)).getD s.cal.state
            if saved = .fresh then .stale else saved)
          gain := (s.cal.run.map (·.savedStep)).getD s.cal.gain
          request := false
          run := none } ∧
      t.scan =
        { s.scan with
          pass := none
          store := if ∃ x, s.scan.pass = some x ∧ x.ended = false then [] else s.scan.store } ∧
      t.circuit =
        { s.circuit with
          rounds := none
          garble := 0
          roster := s.circuit.roster.map fun e =>
            { e with masked := e.maskPending, silence := 0, noise := 0 } } ∧
      t.sender.pass = none ∧
      t.sender.circ =
        (if s.sender.pass.isNone then s.sender.circ
        else if s.circuit.detector = .present ∨ s.circuit.detector = .ending then .broken
        else .free) ∧
      (s.sender.pass.isSome → t.sender.tone = .silent) ∧
      (let completed (p : Pass) : PassClose :=
         { stamp := s.backup.clock
           outcome := p.outcome.getD .failed
           reason := if p.outcome = none then some .reset else p.reason
           secondary := if p.outcome = none then p.secondary else some (p.secondary.getD .reset)
           counts :=
             some
               (match s.scan.pass with
               | none => ⟨p.sent, p.fills, 0, 0, false⟩
               | some x => ⟨p.sent, p.fills, x.heldRefs, x.spoiledLines, x.drift⟩)
           slip := if s.settings.copies = 0 then .skipped else .pending
           results := p.party.map fun e =>
             { station := e.station
               name := e.name
               final :=
                 some
                   (if e.state = .invited then .absent
                   else if e.state = .joined then .noReceipt
                   else e.state)
               noise := some (s.station e.station).noise } }
       let closed : List Record :=
         s.receipts.log.map fun r =>
           { r with
             isOpen := false
             passes := r.passes.map fun e =>
               match s.sender.pass with
               | none => e
               | some p => if r.job = p.job ∧ e.close = none then { e with close := some (completed p) } else e }
       let marked (st : SlipState) (x : SlipEntry) (log : List Record) : List Record :=
         log.map fun r =>
           if r.job = x.job then
             { r with passes := r.passes.map fun e =>
                 if e.number = x.pass then { e with close := e.close.map fun c => { c with slip := st } } else e }
           else r
       let slips : List SlipEntry :=
         s.receipts.slips ++
           match s.sender.pass with
           | none => []
           | some p => if s.settings.copies = 0 then [] else [⟨p.job, p.number, s.settings.copies, false⟩]
       (slips = [] → t.receipts.slips = [] ∧ t.receipts.log = closed) ∧
       ∀ x rest, slips = x :: rest →
         t.receipts.slips =
           (if s.receipts.printer = .printing then { x with reprint := true } else x) :: rest ∧
         t.receipts.log =
           (if s.receipts.paperPresent then marked .printing x closed
           else if s.receipts.printer = .printing then marked .pending x closed
           else closed)) ∧
      t.receipts.printing.map (·.lineEnds) =
        (if t.receipts.printer = .printing then some (s.now + 300) else none) ∧
      t.receipts.printer =
        (if s.receipts.paperPresent = false then .paperOut
        else if t.receipts.slips = [] then .ready
        else .printing) ∧
      t.settings = s.settings ∧ t.backup = s.backup ∧ t.now = s.now

/-! ### The cover and the panel keys -/

/-- COVER_CLOSE (R7, R8) with no want held: nothing to bind; the head job (R4) bound; the head job bound and
released by its pending trigger, with the wants raised, the motor started and the lamp switched on. COVER_OPEN
(R10, R39, R43, R47, R85), a calibration run in progress aborted (R82): the print unbound from no job or a MOUNTED
one; from a RELEASED one, which keeps its trigger; from a FINISHED one, which leaves the queue (R24) and whose record
closes (R157); and a picture being sent killed with reason COVER (R11). With IDLE 0 and no other want the lamp-off
of a RELEASED job's withdrawn want stands before the motor-off: the model's choice (log entry 49). -/
def Obligations.CoverMoved : Prop :=
  (∀ s : State, s.powered = true → s.resting → s.queue.load = .coverOpen → s.drive.queueWant = none →
     s.drive.calWant = none →
     let head :=
       ((s.queue.jobs.filter fun j => j.priority == .flash) ++
         (s.queue.jobs.filter fun j => j.priority == .urgent) ++
         (s.queue.jobs.filter fun j => j.priority == .routine)).find? fun j => j.state == .queued
     (head = none →
       exec .coverClose s =
         .next
           { s with
             link := (s.link.posted [.loadUnbound]).pumped
             queue := { s.queue with load := .unbound } }) ∧
     (∀ j, head = some j → s.timeReached j = false → (j.pendingTrigger = false ∨ j.release.isSome) →
       exec .coverClose s =
         .next
           { s with
             link := (s.link.posted [.load j.number]).pumped
             queue :=
               { s.queue with
                 load := .bound
                 jobs := s.queue.jobs.map fun k =>
                   if k.number = j.number then { k with state := .mounted } else k } }) ∧
     (∀ j, head = some j → (s.queue.jobs.find? fun k => k.number == j.number) = some j →
       j.pendingTrigger = true → j.release = none → j.passNo = 1 →
       (s.drive.drum = .parked ∨ s.drive.drum = .coasting) → s.drive.lamp = .off →
       s.drive.pendingStart = false → s.drive.faultHold = false → s.cal.state = .stale →
       s.sender.circ = .free → s.receipts.log.length < 16 →
       (s.drive.spinUps.filter fun m => decide (s.now < m + 900000)) = [] →
       exec .coverClose s =
         .next
           { s with
             link :=
               (s.link.posted
                 [.load j.number, .release j.number .pending, .drum .spinningUp (some j.speed),
                   .wait j.number [.drum, .lamp, .cal]]).pumped
             queue :=
               { load := .bound
                 missing := [.drum, .lamp, .cal]
                 jobs := s.queue.jobs.map fun k =>
                   if k.number = j.number then
                     { k with state := .released, pendingTrigger := false, calTried := false }
                   else k }
             drive :=
               { s.drive with
                 queueWant := some j.speed
                 idleTimer := none
                 spinUps := [s.now]
                 drum := .spinningUp
                 target := some j.speed
                 lockedAt := none
                 approach := some .spin
                 lockCount := 0
                 lossCount := 0
                 lockTimer := some (s.now + 20000)
                 marked := false
                 lamp := .warming
                 warmTimer := some (s.now + 60000) } })) ∧
  (∀ s : State, s.powered = true → s.queue.load ≠ .coverOpen →
     let moving := s.drive.carriage = .returning ∨ s.drive.stepWaiting
     let drive : Drive :=
       { s.drive with
         drum := if s.drive.drum = .parked then .parked else .coasting
         target := none
         lockedAt := none
         approach := none
         lockCount := 0
         lossCount := 0
         lockTimer := none
         marked := false
         pendingStart := false
         idleTimer := none
         carriage := if moving then .unhomed else s.drive.carriage
         position := if moving then none else s.drive.position
         stepWaiting := false
         calWant := if s.cal.run.isSome then none else s.drive.calWant
         returnTimer := if moving then none else s.drive.returnTimer
         lamp := .off
         warmTimer := if s.drive.lamp = .off then s.drive.warmTimer else none }
     let stales := s.drive.lamp ≠ .off ∧ (s.cal.run.map (·.savedState)).getD s.cal.state = .fresh
     let cal : Calib :=
       match s.cal.run with
       | none => { s.cal with state := if stales then .stale else s.cal.state }
       | some r =>
         { s.cal with
           state := if r.savedState = .fresh then .stale else r.savedState
           gain := r.savedStep
           request := false
           run := none }
     let coasts : List Report := if s.drive.drum.motorOn then [.drum .coasting none] else []
     let dark : List Report := if stales then [.calStaleLamp] else []
     let reports : List Report :=
       [.loadOpen] ++ coasts ++ (if s.cal.run.isSome then [.calAbort] else []) ++ dark
     ((∀ k ∈ s.queue.jobs, k.state = .queued) →
       exec .coverOpen s =
         .next
           { s with
             link := (s.link.posted reports).pumped
             queue := { s.queue with load := .coverOpen }
             drive := drive
             cal := cal
             receipts := (kick s).receipts }) ∧
     (∀ j, s.resting → (s.queue.jobs.find? fun k => k.state != .queued) = some j → j.state = .mounted →
       exec .coverOpen s =
         .next
           { s with
             link := (s.link.posted reports).pumped
             queue :=
               { s.queue with
                 load := .coverOpen
                 jobs := s.queue.jobs.map fun k =>
                   if k.number = j.number then { k with state := .queued } else k }
             drive := drive
             cal := cal }) ∧
     (∀ j, (s.receipts.printer = .ready → s.receipts.slips = []) →
       (s.queue.jobs.find? fun k => k.state != .queued) = some j → j.state = .released →
       (∀ k ∈ s.queue.jobs, k.state = .released → k.number = j.number) → s.drive.queueWant.isSome →
       (s.cal.run.isSome → s.drive.calWant.isSome) →
       exec .coverOpen s =
         .next
           { s with
             link :=
               (s.link.posted
                 (if s.drive.calWant = none ∧ s.settings.idle = 0 then [.loadOpen] ++ dark ++ coasts
                 else reports)).pumped
             queue :=
               { load := .coverOpen
                 missing := []
                 jobs := s.queue.jobs.map fun k =>
                   if k.number = j.number then { k with state := .queued, pendingTrigger := true } else k }
             drive := { drive with queueWant := none, faultHold := false }
             cal := cal }) ∧
     (∀ j, s.resting → (s.queue.jobs.find? fun k => k.state != .queued) = some j → j.state = .finished →
       s.drive.queueWant = none →
       exec .coverOpen s =
         .next
           { s with
             link := (s.link.posted reports).pumped
             queue := ⟨s.queue.jobs.filter fun k => k.number != j.number, .coverOpen, []⟩
             receipts :=
               { s.receipts with
                 log := s.receipts.log.map fun r =>
                   if r.job = j.number ∧ ∀ e ∈ r.passes, e.close.isSome then { r with isOpen := false } else r }
             drive := drive
             cal := cal }) ∧
     (∀ j p, s.cal.run = none → (s.queue.jobs.find? fun k => k.state != .queued) = some j →
       j.state = .active → s.sender.pass = some p → s.sender.circ = .picture → p.breakReason = false →
       ∃ t, exec .coverOpen s = .next t ∧
         t.queue.jobs = (s.queue.jobs.filter fun k => k.number != j.number) ∧ t.queue.load = .coverOpen ∧
         t.sender.circ = .killing ∧ t.sender.tone = .kill s.now ∧
         t.sender.signalEnds = some (s.now + 3000) ∧
         (∃ q, t.sender.pass = some q ∧ q.detached = true ∧ q.outcome = some .failed ∧
           q.reason = some .cover ∧ q.sent = p.sent) ∧
         (∀ x, s.scan.pass = some x → x.ended = false → t.scan.store = [])))

/-- The HOLD and STOP keys act as HOLD and KILL of the mounted job (R23), the SEND key as GO of an ACTIVE one and as
a trigger of a MOUNTED one (R13); a press that would be refused, or with no mounted job, is ignored. With a RELEASED
mounted job SEND and HOLD are ignored, and STOP removes it (R145, R24) and withdraws its wants (R17, R38). -/
def Obligations.PanelKeysActAsRequests : Prop :=
  ∀ s : State, s.powered = true → (s.receipts.printer = .ready → s.receipts.slips = []) →
    (s.queue.jobs.map (·.number)).Nodup → (∀ j ∈ s.queue.jobs, 1 ≤ j.number ∧ j.number ≤ 999) →
    ((∀ j ∈ s.queue.jobs, j.state = .queued) →
      exec .holdKey s = .next { s with link := s.link.pumped } ∧
      exec .stopKey s = .next { s with link := s.link.pumped } ∧
      exec .sendKey s = .next { s with link := s.link.pumped }) ∧
    (∀ j, s.releasedJob = none → (s.queue.jobs.find? fun k => k.state != .queued) = some j →
      let hold := (ownerTakes (.hold [Nat.toDigits 10 j.number]) s).1
      let kill := (ownerTakes (.kill [Nat.toDigits 10 j.number]) s).1
      let go := (ownerTakes (.go [Nat.toDigits 10 j.number]) s).1
      exec .holdKey s = .next { hold with link := hold.link.pumped } ∧
      exec .stopKey s = .next { kill with link := kill.link.pumped } ∧
      (j.state = .active → exec .sendKey s = .next { go with link := go.link.pumped }) ∧
      ((j.state = .finished ∨
          (j.state = .mounted ∧ ∃ r, j.release = some r ∧ reached s.backup.clock r = false)) →
        exec .sendKey s = .next { s with link := s.link.pumped }) ∧
      (j.state = .mounted → j.release = none → s.queue.load ≠ .coverOpen → s.drive.lamp = .warming →
        (s.drive.drum = .spinningUp ∨ s.drive.drum = .slewing ∨ s.drive.drum = .locking) →
        s.drive.pendingStart = false → s.cal.state = .fresh → s.sender.circ = .free →
        s.receipts.log.length < 16 →
        exec .sendKey s =
          .next
            { s with
              link :=
                (s.link.posted [.release j.number .key, .wait j.number [.drum, .lamp]]).pumped
              queue :=
                { s.queue with
                  missing := [.drum, .lamp]
                  jobs := s.queue.jobs.map fun k =>
                    if k.number = j.number then
                      { k with state := .released, pendingTrigger := false, calTried := false }
                    else k }
              drive := { s.drive with queueWant := some j.speed, idleTimer := none } })) ∧
    (∀ j, (s.queue.jobs.find? fun k => k.state != .queued) = some j → j.state = .released →
      exec .holdKey s = .next { s with link := s.link.pumped } ∧
      (s.waits j → exec .sendKey s = .next { s with link := s.link.pumped }) ∧
      ((∀ k ∈ s.queue.jobs, k.state = .released → k.number = j.number) → s.queue.load ≠ .coverOpen →
        s.drive.queueWant.isSome → s.drive.calWant = none → s.settings.idle ≠ 0 →
        exec .stopKey s =
          .next
            { s with
              link := (s.link.posted [.loadUnbound]).pumped
              queue := ⟨s.queue.jobs.filter fun k => k.number != j.number, .unbound, []⟩
              receipts :=
                { s.receipts with
                  log := s.receipts.log.map fun r =>
                    if r.job = j.number ∧ ∀ e ∈ r.passes, e.close.isSome then { r with isOpen := false }
                    else r }
              drive :=
                { s.drive with
                  queueWant := none
                  faultHold := false
                  pendingStart := false
                  idleTimer := some (s.now + 1000 * s.settings.idle) } }))

/-! ### Drum, carriage and lamp -/

/-- The tachometer's silence and an index mark that finds the motor off, which only ends the revolution (R33,
R31), the home switch and the return timer (R41), the step sense (R42) and the
end switch (R43, R44), with no pass in progress where a carriage fault arises. -/
def Obligations.CarriageAndDrumSensors : Prop :=
  ∀ s : State, s.powered = true →
    (s.drive.drum = .coasting →
      exec .tachometerSilence s =
        .next
          { s with
            link := (s.link.posted [.drum .parked none]).pumped
            drive := { s.drive with drum := .parked } }) ∧
    (∀ period, s.resting → (s.drive.drum = .coasting ∨ s.drive.drum = .parked) →
      exec (.indexMark period) s =
        .next { s with link := s.link.pumped, drive := { s.drive with nextPos := none } }) ∧
    (exec .homeSwitch s =
      .next
        (if s.drive.carriage = .returning then
          { s with
            drive := { s.drive with carriage := .home, position := some 0, returnTimer := none } }
        else s)) ∧
    (exec .stepSense s = .next { s with drive := { s.drive with stepWaiting := false } }) ∧
    (∀ m, s.resting → s.sender.pass = none → s.drive.returnTimer = some m →
      exec .returnTimerExpiry s =
        .next
          { s with
            now := max s.now m
            link := (s.link.posted [.drumFault .carriage]).pumped
            drive := { s.drive with carriage := .unhomed, position := none, returnTimer := none } }) ∧
    (s.resting → s.sender.pass = none →
      exec .endSwitch s =
        .next
          { s with
            link := (s.link.posted [.drumFault .carriage]).pumped
            drive :=
              { s.drive with
                carriage := .unhomed
                position := none
                stepWaiting := false
                returnTimer := none } })

/-- The lock timer with a RELEASED job waiting (R29, R32), the end of idle hold (R38, R47, R85), and the
oldest spin-up entry's end with a start pending (R36, R37) and without one; with a RELEASED job that waits for the
pending start, cause DRUM takes the place of BUDGET (R19, R37). -/
def Obligations.DriveTimersExpire : Prop :=
  ∀ s : State, s.powered = true →
    (∀ m j w, (s.receipts.printer = .ready → s.receipts.slips = []) → s.drive.lockTimer = some m →
      s.drive.drum.approaching = true → s.sender.pass = none → s.cal.request = false → s.cal.run = none →
      s.releasedJob = some j → s.drive.queueWant = some w → s.drive.pendingStart = false →
      s.queue.missing = s.missingCauses j →
      exec .lockTimerExpiry s =
        .next
          { s with
            now := max s.now m
            link := (s.link.posted [.drumFault .timeout, .drum .coasting none]).pumped
            drive :=
              { s.drive with
                drum := .coasting
                target := none
                lockedAt := none
                approach := none
                lockCount := 0
                lossCount := 0
                lockTimer := none
                marked := false
                faultHold := true } }) ∧
    (∀ m, s.drive.idleTimer = some m → s.drive.queueWant = none → s.drive.calWant = none →
      let stales := s.drive.lamp ≠ .off ∧ s.cal.state = .fresh
      exec .idleHoldExpiry s =
        .next
          { s with
            now := max s.now m
            link :=
              (s.link.posted
                ((if stales then [.calStaleLamp] else []) ++
                  (if s.drive.drum.motorOn then [.drum .coasting none] else []))).pumped
            drive :=
              { s.drive with
                drum := if s.drive.drum = .parked then .parked else .coasting
                target := none
                lockedAt := none
                approach := none
                lockCount := 0
                lossCount := 0
                lockTimer := none
                marked := false
                idleTimer := none
                lamp := .off
                warmTimer := if s.drive.lamp = .off then s.drive.warmTimer else none }
            cal := { s.cal with state := if stales then .stale else s.cal.state } }) ∧
    (∀ m rest, s.resting → s.drive.spinUps = m :: rest → s.drive.pendingStart = false →
      exec .spinUpEntryExpiry s =
        .next { s with now := max s.now (m + 900000), link := s.link.pumped }) ∧
    (∀ m rest w, s.resting → s.drive.spinUps = m :: rest → s.drive.pendingStart = true →
      s.queue.load ≠ .coverOpen → s.drive.faultHold = false → s.cal.state ≠ .running →
      (s.drive.queueWant = some w ∨ (s.drive.queueWant = none ∧ s.drive.calWant = some w)) →
      (s.drive.drum = .parked ∨ s.drive.drum = .coasting) → rest.length < 6 →
      (∀ x ∈ rest, x < max s.now (m + 900000)) →
      let now := max s.now (m + 900000)
      exec .spinUpEntryExpiry s =
        .next
          { s with
            now := now
            link := (s.link.posted [.drum .spinningUp (some w)]).pumped
            drive :=
              { s.drive with
                spinUps := (rest.filter fun x => decide (now < x + 900000)) ++ [now]
                pendingStart := false
                drum := .spinningUp
                target := some w
                lockedAt := none
                approach := some .spin
                lockCount := 0
                lossCount := 0
                lockTimer := some (now + 20000)
                marked := false } }) ∧
    (∀ m rest j, (s.receipts.printer = .ready → s.receipts.slips = []) → s.releasedJob = some j →
      s.drive.queueWant = some j.speed → s.waits j → s.drive.spinUps = m :: rest →
      s.drive.pendingStart = true → s.queue.load ≠ .coverOpen → s.drive.faultHold = false →
      s.cal.state ≠ .running → (s.drive.drum = .parked ∨ s.drive.drum = .coasting) → rest.length < 6 →
      (∀ x ∈ rest, x < max s.now (m + 900000)) →
      let now := max s.now (m + 900000)
      let causes := Cause.drum :: s.queue.missing.tail
      exec .spinUpEntryExpiry s =
        .next
          { s with
            now := now
            link := (s.link.posted [.drum .spinningUp (some j.speed), .wait j.number causes]).pumped
            queue := { s.queue with missing := causes }
            drive :=
              { s.drive with
                spinUps := (rest.filter fun x => decide (now < x + 900000)) ++ [now]
                pendingStart := false
                drum := .spinningUp
                target := some j.speed
                lockedAt := none
                approach := some .spin
                lockCount := 0
                lossCount := 0
                lockTimer := some (now + 20000)
                marked := false } })

/-- The lamp's warm-up (R45) and current fault (R46), and a temperature reading (R48) with the drift test of
the calibration (R86) and of a pass (R71). A RELEASED job that waits for the lamp alone starts at the end of the
warm-up (R16, R20). -/
def Obligations.LampAndTemperature : Prop :=
  (∀ (s : State) (m : Moment) (j : Job), s.powered = true → s.awaits j → s.drive.drum = .locked →
    s.drive.lockedAt = some j.speed → s.cal.state = .fresh → s.drive.lamp = .warming →
    s.drive.warmTimer = some m →
    let u : State :=
      { s with now := max s.now m, drive := { s.drive with lamp := .ready, warmTimer := none } }
    exec .warmUpExpiry s =
      .next
        { u.begun j with
          link := (s.link.posted [.lampReady, .start j.number j.passNo]).pumped }) ∧
  ∀ s : State, s.powered = true → s.resting →
    (∀ m, s.drive.lamp = .warming → s.drive.warmTimer = some m →
      exec .warmUpExpiry s =
        .next
          { s with
            now := max s.now m
            link := (s.link.posted [.lampReady]).pumped
            drive := { s.drive with lamp := .ready, warmTimer := none } }) ∧
    (s.sender.pass = none → s.cal.run = none →
      exec .lampCurrentFault s =
        .next
          (if s.drive.lamp = .warming ∨ s.drive.lamp = .ready then
            { s with
              link := (s.link.posted [.lampFault]).pumped
              drive := { s.drive with lamp := .fault, warmTimer := none } }
          else { s with link := s.link.pumped })) ∧
    (∀ d : Int,
      let temp := if d < 0 then 0 else if 99 < d then 99 else d.toNat
      let now := max s.now s.drive.nextTemp
      let drifted :=
        s.cal.state = .fresh ∧ ∃ c, s.cal.tcal = some c ∧ (s.settings.calDrift : Int) ≤ |(temp : Int) - c|
      exec (.temperatureReading d) s =
        .next
          { s with
            now := now
            link :=
              (s.link.posted
                (if drifted then
                  .calStaleDrift ::
                    match s.queue.jobs.find? fun k => k.state == .active with
                    | none => []
                    | some j => [.lampDrift j.number temp]
                else [])).pumped
            drive := { s.drive with temp := temp, nextTemp := now + 4000 }
            cal := { s.cal with state := if drifted then .stale else s.cal.state }
            scan :=
              if drifted ∧ s.anyActive then
                { s.scan with pass := s.scan.pass.map fun x => { x with drift := true } }
              else s.scan })

/-! ### Index marks -/

/-- An index mark in an approach state (R28), with the first one opening a revolution and measuring none, and
the slew that follows a lock at another speed than the wanted one (R35). No pass and no calibration run or
request is in progress, so nothing else follows; but a RELEASED job that waits for the drum alone starts at the mark
that reaches its speed (R16, R20). -/
def Obligations.ApproachMeasured : Prop :=
  (∀ (s : State) (period : Nat) (j : Job), s.powered = true → s.awaits j → s.drive.drum = .locking →
    s.drive.marked = true → s.drive.target = some j.speed → s.drive.queueWant = some j.speed →
    s.drive.lockCount = 2 → withinError 1 j.speed period → s.drive.lamp = .ready → s.cal.state = .fresh →
    s.cal.run = none → s.cal.request = false → s.sender.pass = none → s.scan.pass = none →
    let u : State :=
      { s with
        drive :=
          { s.drive with
            drum := .locked
            lockedAt := some j.speed
            approach := none
            lockCount := 3
            lossCount := 0
            lockTimer := none
            nextPos := some 0 } }
    exec (.indexMark period) s =
      .next
        { u.begun j with
          link :=
            (s.link.posted [.drum .locked (some j.speed), .start j.number j.passNo]).pumped }) ∧
  ∀ (s : State) (period : Nat) (v : Speed), s.powered = true → s.resting → s.sender.pass = none →
    s.scan.pass = none → s.cal.run = none → s.cal.request = false → s.drive.target = some v →
    let marked : Drive := { s.drive with nextPos := none }
    (s.drive.marked = false →
      (s.drive.drum = .spinningUp ∨ s.drive.drum = .slewing ∨ s.drive.drum = .locking) →
      exec (.indexMark period) s =
        .next { s with link := s.link.pumped, drive := { marked with marked := true } }) ∧
    (s.drive.marked = true → (s.drive.drum = .spinningUp ∨ s.drive.drum = .slewing) →
      exec (.indexMark period) s =
        .next
          (if withinError 20 v period then
            { s with
              link := (s.link.posted [.drum .locking (some v)]).pumped
              drive :=
                { marked with
                  drum := .locking
                  lockCount := if withinError 1 v period then 1 else 0 } }
          else { s with link := s.link.pumped, drive := marked })) ∧
    (s.drive.marked = true → s.drive.drum = .locking → ¬ withinError 1 v period →
      exec (.indexMark period) s =
        .next
          (if withinError 20 v period then
            { s with link := s.link.pumped, drive := { marked with lockCount := 0 } }
          else
            let back : DrumState := if s.drive.approach = some .slew then .slewing else .spinningUp
            { s with
              link := (s.link.posted [.drum back (some v)]).pumped
              drive := { marked with drum := back, lockCount := 0 } })) ∧
    (s.drive.marked = true → s.drive.drum = .locking → withinError 1 v period →
      s.drive.lockCount + 1 < 3 →
      exec (.indexMark period) s =
        .next
          { s with
            link := s.link.pumped
            drive := { marked with lockCount := s.drive.lockCount + 1 } }) ∧
    (s.drive.marked = true → s.drive.drum = .locking → withinError 1 v period →
      s.drive.lockCount = 2 →
      let wanted := if s.drive.queueWant.isSome then s.drive.queueWant else s.drive.calWant
      ((wanted = none ∨ wanted = some v) →
        exec (.indexMark period) s =
          .next
            { s with
              link := (s.link.posted [.drum .locked (some v)]).pumped
              drive :=
                { s.drive with
                  drum := .locked
                  lockedAt := some v
                  approach := none
                  lockCount := 3
                  lossCount := 0
                  lockTimer := none
                  nextPos := some 0 } }) ∧
      (∀ w, wanted = some w → w ≠ v → s.queue.load ≠ .coverOpen → s.drive.faultHold = false →
        s.cal.state ≠ .running →
        exec (.indexMark period) s =
          .next
            { s with
              link := (s.link.posted [.drum .locked (some v), .drum .slewing (some w)]).pumped
              drive :=
                { s.drive with
                  drum := .slewing
                  target := some w
                  lockedAt := none
                  approach := some .slew
                  lockCount := 0
                  lossCount := 0
                  lockTimer := some (s.now + 20000)
                  marked := false
                  nextPos := none } }))

/-- An index mark in LOCKED (R30), with no pass and no calibration run or request in progress: the loss count,
the positions of the revolution that opens (R31), and at the second loss in a row the drive fault of kind LOCK
(R32), its fault hold staying set only where the queue holds a want. -/
def Obligations.LockedRevolutionJudged : Prop :=
  ∀ (s : State) (period : Nat) (v : Speed), s.powered = true → s.resting → s.sender.pass = none →
    s.scan.pass = none → s.cal.run = none → s.cal.request = false → s.drive.drum = .locked →
    s.drive.lockedAt = some v →
    (withinError 10 v period →
      exec (.indexMark period) s =
        .next
          { s with link := s.link.pumped, drive := { s.drive with lossCount := 0, nextPos := some 0 } }) ∧
    (¬ withinError 10 v period → s.drive.lossCount = 0 →
      exec (.indexMark period) s =
        .next
          { s with link := s.link.pumped, drive := { s.drive with lossCount := 1, nextPos := some 0 } }) ∧
    (¬ withinError 10 v period → s.drive.lossCount = 1 → s.drive.calWant = none →
      exec (.indexMark period) s =
        .next
          { s with
            link := (s.link.posted [.drumFault .lock, .drum .coasting none]).pumped
            drive :=
              { s.drive with
                drum := .coasting
                target := none
                lockedAt := none
                approach := none
                lockCount := 0
                lossCount := 0
                lockTimer := none
                faultHold := s.drive.queueWant.isSome
                marked := false
                nextPos := none
                pendingStart := false } })

/-- A calibration run at the index marks (R77 to R82): its beginning; the settling revolution; the trials of
the counted revolutions 2 to 7 with the gain applied in the revolution that opens; the checks of the eighth;
a spoiled revolution; and the eighth spoiled one. The unit's want is the only one held; but a RELEASED job, its want
held, that waits for the calibration alone starts at the mark at which the run passes (R16, R18, R20). -/
def Obligations.CalibrationRunStepped : Prop :=
  (∀ (s : State) (period : Nat) (j : Job) (r : CalRun) (w b : Nat), s.powered = true → s.awaits j →
    s.sender.pass = none → s.scan.pass = none → s.drive.drum = .locked → s.drive.lockedAt = some j.speed →
    s.drive.queueWant = some j.speed → s.drive.lamp = .ready → s.cal.run = some r →
    withinError 3 j.speed period → r.counted = 8 → r.means = some (w, b) → 3400 ≤ w → w ≤ 3800 → b ≤ 900 →
    b + 2000 ≤ w →
    let u : State :=
      { s with
        drive := { s.drive with lossCount := 0, nextPos := some 0, calWant := none }
        cal := ⟨.fresh, r.working, w, b, some s.drive.temp, false, none⟩ }
    exec (.indexMark period) s =
      .next
        { u.begun j with
          link := (s.link.posted [.calOk r.working w b, .start j.number j.passNo]).pumped }) ∧
  ∀ (s : State) (period : Nat) (v : Speed), s.powered = true → s.resting → s.sender.pass = none →
    s.scan.pass = none → s.drive.drum = .locked → s.drive.lockedAt = some v → s.drive.lamp = .ready →
    (withinError 10 v period ∨ s.drive.lossCount = 0) → s.drive.queueWant = none →
    s.drive.calWant.isSome → s.settings.idle ≠ 0 →
    let drive : Drive :=
      { s.drive with
        lossCount := if withinError 10 v period then 0 else 1
        nextPos := some 0 }
    let weight (n : Nat) : Nat := [0, 0, 32, 16, 8, 4, 2, 1].getD n 0
    let ended : Drive :=
      { drive with
        calWant := none
        pendingStart := false
        idleTimer := some (s.now + 1000 * s.settings.idle) }
    (s.cal.run = none → s.cal.request = true → s.anyActive = false → s.cal.state ≠ .running →
      exec (.indexMark period) s =
        .next
          { s with
            link := (s.link.posted [.calRunning]).pumped
            drive := drive
            cal :=
              { s.cal with
                state := .running
                gain := 0
                run := some ⟨s.cal.gain, s.cal.state, 0, 1, 0, 0, 0, none⟩ } }) ∧
    (∀ r, s.cal.run = some r → withinError 3 v period →
      (r.counted = 1 →
        exec (.indexMark period) s =
          .next
            { s with
              link := s.link.pumped
              drive := drive
              cal :=
                { s.cal with
                  gain := r.working + 32
                  run :=
                    some { r with counted := 2, whiteSum := 0, blackSum := 0, means := none } } }) ∧
      (∀ w b, 2 ≤ r.counted → r.counted ≤ 7 → r.means = some (w, b) →
        let kept := if w ≤ 3600 then r.working + weight r.counted else r.working
        exec (.indexMark period) s =
          .next
            { s with
              link := s.link.pumped
              drive := drive
              cal :=
                { s.cal with
                  gain := kept + weight (r.counted + 1)
                  run :=
                    some
                      { r with
                        working := kept
                        counted := r.counted + 1
                        whiteSum := 0
                        blackSum := 0
                        means := none } } }) ∧
      (∀ w b, r.counted = 8 → r.means = some (w, b) →
        exec (.indexMark period) s =
          .next
            (if 3400 ≤ w ∧ w ≤ 3800 ∧ b ≤ 900 ∧ b + 2000 ≤ w then
              { s with
                link := (s.link.posted [.calOk r.working w b]).pumped
                drive := ended
                cal := ⟨.fresh, r.working, w, b, some s.drive.temp, false, none⟩ }
            else
              { s with
                link := (s.link.posted [.calFail]).pumped
                drive := ended
                cal :=
                  { s.cal with
                    state := .failed
                    gain := r.savedStep
                    request := false
                    run := none } }))) ∧
    (∀ r, s.cal.run = some r → ¬ withinError 3 v period →
      (r.spoiled < 7 →
        exec (.indexMark period) s =
          .next
            { s with
              link := s.link.pumped
              drive := drive
              cal :=
                { s.cal with
                  gain := r.working + weight r.counted
                  run :=
                    some
                      { r with
                        spoiled := r.spoiled + 1
                        whiteSum := 0
                        blackSum := 0
                        means := none } } }) ∧
      (r.spoiled = 7 →
        exec (.indexMark period) s =
          .next
            { s with
              link := (s.link.posted [.calAbort]).pumped
              drive := ended
              cal :=
                { s.cal with
                  state := r.savedState
                  gain := r.savedStep
                  request := false
                  run := none } }))

/-- An index mark in PHASING (R120, R121) and the pause that may wait for it (R136, R139), at the Sender: the
count, the pause, the entry to PICTURE, the designation of the last revolution. -/
def Obligations.PhasingRevolutionEnds : Prop :=
  ∀ (s : State) (period : Nat) (v : Speed) (p : Pass), s.powered = true → s.resting →
    s.drive.drum = .locked → s.drive.lockedAt = some v →
    (withinError 10 v period ∨ s.drive.lossCount = 0) → s.cal.run = none → s.cal.request = false →
    s.sender.pass = some p → s.sender.circ = .phasing →
    let count := if withinError 3 v period then p.phaseCount + 1 else p.phaseCount
    let needed := if p.rephase then p.copy.rephase else p.copy.phase
    ∃ t, exec (.indexMark period) s = .next t ∧ t.settings = s.settings ∧ t.queue = s.queue ∧
      t.circuit = s.circuit ∧ t.receipts = s.receipts ∧ t.cal = s.cal ∧
      (p.pausePending = true →
        t.link = (s.link.posted [.pause p.job p.holdReason p.breakReason]).pumped ∧
        t.sender =
          { circ := .paused
            pass :=
              some
                { p with
                  phaseCount := count
                  pausePending := false
                  resume := some (if p.rephase then .rephase else .phasing)
                  line := none }
            tone := if p.breakReason then .silent else .steady p.copy.white
            signalEnds := none }) ∧
      (p.pausePending = false → t.link = s.link.pumped) ∧
      (p.pausePending = false → p.lastPhasing = true → withinError 3 v period → needed ≤ count →
        t.sender =
          { s.sender with
            circ := .picture
            pass :=
              some
                { p with phaseCount := count, rephase := false, lastPhasing := false, line := none } }) ∧
      (p.pausePending = false → ¬ (p.lastPhasing = true ∧ withinError 3 v period ∧ needed ≤ count) →
        t.sender =
          { s.sender with
            pass :=
              some
                { p with
                  phaseCount := count
                  lastPhasing :=
                    decide (needed - 1 ≤ count ∧ (p.rephase = true ∨ s.drive.carriage = .home)) } })

/-- The index mark that ends a picture revolution (R124), at the Sender: the counts and the last codes; the
fourth fill in a row, which fails the pass (R144), under a break by closing it at once; `*LINE`; the end signal
(R128); a pending pause, taken in ENDING where the line is line N (R136). -/
def Obligations.PictureLineCompleted : Prop :=
  ∀ (s : State) (period : Nat) (v : Speed) (p : Pass) (l : SentLine), s.powered = true → s.resting →
    s.drive.drum = .locked → s.drive.lockedAt = some v →
    (withinError 10 v period ∨ s.drive.lossCount = 0) → s.cal.run = none → s.cal.request = false →
    s.sender.pass = some p → s.sender.circ = .picture → p.line = some l →
    let q : Pass :=
      { p with
        sent := p.sent + 1
        fills := p.fills + (if l.fill then 1 else 0)
        heldSent := p.heldSent + (if l.heldRef then 1 else 0)
        lastCodes := some l.codes
        line := none }
    let progress : List Report :=
      if s.settings.progress ≠ 0 ∧ s.settings.progress ∣ q.sent then
        [.line p.job q.sent q.heldSent l.drift]
      else []
    (p.consecFills < 4 → q.sent < p.lines → p.pausePending = false →
      ∃ t, exec (.indexMark period) s = .next t ∧ t.sender = { s.sender with pass := some q } ∧
        t.link = (s.link.posted progress).pumped) ∧
    (p.consecFills < 4 → q.sent < p.lines → p.pausePending = true →
      ∃ t, exec (.indexMark period) s = .next t ∧
        t.sender =
          { circ := .paused
            pass := some { q with pausePending := false, resume := some .rephase }
            tone := if p.breakReason then .silent else .steady p.copy.white
            signalEnds := none } ∧
        t.link =
          (s.link.posted (progress ++ [.pause p.job p.holdReason p.breakReason])).pumped) ∧
    (p.consecFills < 4 → q.sent = p.lines → p.pausePending = false →
      ∃ t, exec (.indexMark period) s = .next t ∧
        t.sender =
          { circ := .ending
            pass := some q
            tone := .steady p.copy.black
            signalEnds := some (s.now + 3000) } ∧
        t.link = (s.link.posted progress).pumped ∧
        ∀ x, s.scan.pass = some x → x.ended = false → t.scan.store = []) ∧
    (p.consecFills < 4 → q.sent = p.lines → p.pausePending = true →
      ∃ t, exec (.indexMark period) s = .next t ∧
        t.sender =
          { circ := .paused
            pass := some { q with pausePending := false, resume := some .ending }
            tone := if p.breakReason then .silent else .steady p.copy.white
            signalEnds := none } ∧
        t.link =
          (s.link.posted (progress ++ [.pause p.job p.holdReason p.breakReason])).pumped ∧
        ∀ x, s.scan.pass = some x → x.ended = false → t.scan.store = []) ∧
    (p.consecFills = 4 → p.breakReason = true → s.holdsJob p →
      ∃ t, exec (.indexMark period) s = .next t ∧ t.now = s.now ∧ s.closes t p .failed ∧
        t.link = (s.link.posted (p.endReports .failed (some .fills) ++ progress)).pumped) ∧
    (p.consecFills = 4 → p.breakReason = false →
      ∃ t u, exec (.indexMark period) s = .next t ∧
        t.sender =
          { circ := .killing
            pass := some u
            tone := .kill s.now
            signalEnds := some (s.now + 3000) } ∧
        u.outcome = some .failed ∧ u.reason = some .fills ∧ u.sent = q.sent ∧ u.fills = q.fills ∧
        u.pausePending = false ∧ u.holdReason = false ∧
        t.link = (s.link.posted progress).pumped)

/-- The Scan Unit at an index mark (R68 to R70, R42) in a pass whose Sender is in PHASING, or goes on in PICTURE:
the line in progress closed into a record or discarded, and the next line begun by the conditions of R69. The scan
permission (R67) is given for a picture revolution, for the last rephase revolution (R142) and for the last phasing
revolution (R121), in which only line 1 is begun (condition 7); it is withheld for every other phasing revolution and
where a pause takes effect. Line 1 is begun at HOME and orders no step; a later line orders one step outward, with
which a carriage at HOME is STEPPING. -/
def Obligations.LinesScannedAtIndexMark : Prop :=
  ∀ (s : State) (period : Nat) (v : Speed) (p : Pass) (x : ScanPass), s.powered = true →
    s.resting → s.drive.drum = .locked → s.drive.lockedAt = some v →
    (withinError 10 v period ∨ s.drive.lossCount = 0) → s.cal.run = none → s.cal.request = false →
    s.sender.pass = some p →
    (s.sender.circ = .phasing ∨
      (s.sender.circ = .picture ∧ p.line.isSome ∧ p.pausePending = false ∧ p.consecFills < 4 ∧
        p.sent + 1 < p.lines)) →
    s.scan.pass = some x → (∀ k, x.line = some k → k.codes.length = 1232) →
    let count := if withinError 3 v period then p.phaseCount + 1 else p.phaseCount
    let needed := if p.rephase then p.copy.rephase else p.copy.phase
    let enters := p.lastPhasing = true ∧ withinError 3 v period ∧ needed ≤ count
    let isLast := ¬ enters ∧ needed ≤ count + 1 ∧ (p.rephase = true ∨ s.drive.carriage = .home)
    let permitted := s.sender.circ = .picture ∨ (p.pausePending = false ∧ (enters ∨ isLast))
    let onlyFirst := s.sender.circ = .phasing ∧ isLast ∧ p.rephase = false
    let closed : Scan :=
      match x.line with
      | none => s.scan
      | some k =>
        if ¬ withinError 3 v period ∨ k.spoiled = true then
          { s.scan with
            pass :=
              some
                { x with
                  line := none
                  spoiledLines := x.spoiledLines + 1
                  nextLine := if k.number = 1 then 1 else k.number + 1 } }
        else
          { s.scan with
            store := s.scan.store ++ [⟨x.job, k.number, k.codes, k.heldRef, x.drift⟩]
            pass := some { x with line := none, nextLine := k.number + 1 } }
    ∃ (y : ScanPass) (t : State), closed.pass = some y ∧ exec (.indexMark period) s = .next t ∧
      let begins :=
        permitted ∧ (onlyFirst → y.nextLine = 1) ∧ y.nextLine ≤ y.lines ∧ closed.store.length ≤ 1 ∧
          y.ended = false ∧ y.failed = false ∧ (y.nextLine = 1 → s.drive.carriage = .home)
      let drive : Drive :=
        { s.drive with
          lossCount := if withinError 10 v period then 0 else s.drive.lossCount + 1
          nextPos := some 0 }
      (begins →
        t.scan = { closed with pass := some { y with line := some ⟨y.nextLine, [], false, false, 0, 0⟩ } } ∧
        (y.nextLine ≠ 1 →
          t.drive =
            { drive with
              carriage := if s.drive.carriage = .home then .stepping else s.drive.carriage
              position := s.drive.position.map (· + 1)
              stepPitch := some y.pitch
              stepWaiting := true }) ∧
        (y.nextLine = 1 → t.drive = drive)) ∧
      (¬ begins → t.scan = closed ∧ t.drive = drive)

/-! ### Sample positions -/

/-- The samples of a revolution at the Scan Unit and the Calibration Unit (R53 to R58, R78): the sums of the
clamp bar, the reference and the means at position 32, the codes. The twelfth invalid reference in a row (R56),
handed to the Sender as REFERENCE (R144): KILLING while the picture is being sent, the pass closed at once under
a break. A step not confirmed by position 48 (R42) spoils the line, the take of the same position following in
PICTURE; the third of a pass is a carriage fault (R44), handed to the Sender as CARRIAGE, and no take follows.
That the step fault comes before the take of its position is the model's choice (log entry 45). -/
def Obligations.SamplesRead : Prop :=
  (∀ (s : State) (pos : Nat) (x : BitVec 12) (q : Nat) (c : ScanPass) (l : ScanLine), s.powered = true →
     s.resting → s.drive.nextPos = some q → q ≤ pos → pos < 1280 →
     (pos = 48 → s.drive.stepWaiting = false) → s.scan.pass = some c → c.line = some l → c.ended = false →
     c.failed = false →
     let valid := 2000 ≤ l.whiteSum / 16 ∧ l.blackSum / 16 + 1024 ≤ l.whiteSum / 16
     ¬ (pos = 32 ∧ ¬ valid ∧ 11 ≤ c.invalid) →
     ∃ t, exec (.samplePosition pos x) s = .next t ∧ t.drive.nextPos = some (pos + 1) ∧
       t.cal.run =
         (s.cal.run.map fun r =>
           if pos < 16 then { r with whiteSum := r.whiteSum + x.toNat }
           else if pos < 32 then { r with blackSum := r.blackSum + x.toNat }
           else if pos = 32 then { r with means := some (r.whiteSum / 16, r.blackSum / 16) }
           else r) ∧
       (pos < 16 →
         t.scan =
           { s.scan with
             pass := some { c with line := some { l with whiteSum := l.whiteSum + x.toNat } } }) ∧
       (16 ≤ pos → pos < 32 →
         t.scan =
           { s.scan with
             pass := some { c with line := some { l with blackSum := l.blackSum + x.toNat } } }) ∧
       (pos = 32 → valid →
         t.scan =
           { s.scan with
             wr := (3 * s.scan.wr + l.whiteSum / 16 + 2) / 4
             br := (3 * s.scan.br + l.blackSum / 16 + 2) / 4
             pass := some { c with invalid := 0 } }) ∧
       (pos = 32 → ¬ valid →
         t.scan =
           { s.scan with
             pass :=
               some
                 { c with
                   invalid := c.invalid + 1
                   heldRefs := c.heldRefs + 1
                   line := some { l with heldRef := true } } }) ∧
       (33 ≤ pos → pos < 48 → t.scan = s.scan) ∧
       (48 ≤ pos → l.codes.length = pos - 48 →
         t.scan =
           { s.scan with
             store := t.scan.store
             pass :=
               some
                 { c with
                   line :=
                     some
                       { l with
                         codes :=
                           l.codes ++
                             [toneCode (s.scan.curvePoints c.curve)
                               (normalise s.scan.wr s.scan.br x.toNat)] } } } ∧
         (pos ≠ 48 ∨ s.sender.circ ≠ .picture → t.scan.store = s.scan.store))) ∧
  (∀ (s : State) (x : BitVec 12) (q : Nat) (p : Pass) (c : ScanPass) (l : ScanLine), s.powered = true →
     s.resting → s.drive.nextPos = some q → q ≤ 32 → s.sender.pass = some p → s.midPicture p →
     s.scan.pass = some c → c.line = some l → c.ended = false → c.failed = false →
     ¬ (2000 ≤ l.whiteSum / 16 ∧ l.blackSum / 16 + 1024 ≤ l.whiteSum / 16) → c.invalid = 11 →
     (p.breakReason = false →
       ∃ t u, exec (.samplePosition 32 x) s = .next t ∧ t.link = s.link.pumped ∧
         t.drive.nextPos = some 33 ∧
         t.sender = ⟨.killing, some u, .kill s.now, some (s.now + 3000)⟩ ∧
         u.outcome = some .failed ∧ u.reason = some .reference ∧ u.sent = p.sent ∧ u.line = none ∧
         u.resume = none ∧ u.holdReason = false ∧
         t.scan =
           { s.scan with
             store := []
             pass :=
               some
                 { c with
                   invalid := 12
                   heldRefs := c.heldRefs + 1
                   line := none
                   failed := true
                   ended := true } }) ∧
     (p.breakReason = true → s.holdsJob p →
       ∃ t, exec (.samplePosition 32 x) s = .next t ∧ t.now = s.now ∧
         t.link = (s.link.posted (p.endReports .failed (some .reference))).pumped ∧
         s.closes t p .failed)) ∧
  (∀ (s : State) (x : BitVec 12) (q : Nat) (p : Pass) (c : ScanPass) (l : ScanLine), s.powered = true →
     s.resting → s.drive.nextPos = some q → q ≤ 48 → s.drive.stepWaiting = true → s.sender.pass = some p →
     s.midPicture p → p.line = none → s.scan.pass = some c → c.line = some l → c.ended = false →
     c.failed = false →
     (s.drive.stepFaults < 2 →
       ∃ t, exec (.samplePosition 48 x) s = .next t ∧ t.drive.stepFaults = s.drive.stepFaults + 1 ∧
         t.drive.stepWaiting = false ∧ t.drive.nextPos = some 49 ∧ t.link = s.link.pumped ∧
         t.sender.circ = s.sender.circ ∧
         (∃ d, t.scan.pass = some d ∧ d.line.map (·.spoiled) = some true ∧ d.spoiledLines = c.spoiledLines) ∧
         (s.sender.circ = .picture → ∃ u, t.sender.pass = some u ∧ u.line.isSome) ∧
         (s.sender.circ ≠ .picture → t.sender.pass = some p)) ∧
     (s.drive.stepFaults = 2 → p.breakReason = false →
       ∃ t u, exec (.samplePosition 48 x) s = .next t ∧ t.drive.stepFaults = 3 ∧
         t.link = (s.link.posted [.drumFault .carriage]).pumped ∧
         t.sender = ⟨.killing, some u, .kill s.now, some (s.now + 3000)⟩ ∧
         u.outcome = some .failed ∧ u.reason = some .carriage ∧ u.sent = p.sent ∧ u.line = none ∧
         u.consecFills = p.consecFills ∧ t.scan.store = [] ∧
         ∃ d, t.scan.pass = some d ∧ d.line = none ∧ d.ended = true) ∧
     (s.drive.stepFaults = 2 → p.breakReason = true → s.holdsJob p →
       ∃ t, exec (.samplePosition 48 x) s = .next t ∧ t.now = s.now ∧
         t.link =
           (s.link.posted (.drumFault .carriage :: p.endReports .failed (some .carriage))).pumped ∧
         s.closes t p .failed))

/-- The Sender at a sample position (R111, R122, R123): the phasing signal; in PICTURE the clamp bar's Fb, the
take at position 48 (R66) of a record or of a fill line, and the frequency of each code (R59). -/
def Obligations.TonesAtSamplePositions : Prop :=
  ∀ (s : State) (pos : Nat) (x : BitVec 12) (q : Nat) (p : Pass), s.powered = true → s.resting →
    s.drive.nextPos = some q → q ≤ pos → pos < 1280 →
    (pos = 48 → s.drive.stepWaiting = true → s.drive.stepFaults < 2) →
    (∀ c, s.scan.pass = some c → c.failed = false ∧ (pos = 32 → c.invalid < 11)) →
    s.sender.pass = some p →
    (s.sender.circ = .phasing →
      ∃ t, exec (.samplePosition pos x) s = .next t ∧
        t.sender =
          { s.sender with tone := .steady (if pos < 48 then p.copy.black else p.copy.white) }) ∧
    (s.sender.circ = .picture → pos < 48 →
      ∃ t, exec (.samplePosition pos x) s = .next t ∧
        t.sender = { s.sender with tone := .steady p.copy.black }) ∧
    (∀ l, s.sender.circ = .picture → 48 ≤ pos → p.line = some l →
      ∃ t, exec (.samplePosition pos x) s = .next t ∧
        t.sender =
          { s.sender with
            tone := .steady (toneFrequency p.copy.white p.copy.black (l.codes.getD (pos - 48) 0)) } ∧
        t.scan.store = s.scan.store) ∧
    (∀ r rest, s.sender.circ = .picture → pos = 48 → p.line = none → s.scan.store = r :: rest →
      r.line = p.sent + 1 →
      ∃ t, exec (.samplePosition pos x) s = .next t ∧ t.scan.store = rest ∧
        t.sender =
          { s.sender with
            tone := .steady (toneFrequency p.copy.white p.copy.black (r.codes.getD 0 0))
            pass := some { p with consecFills := 0, line := some ⟨r.codes, false, r.heldRef, r.drift⟩ } }) ∧
    (s.sender.circ = .picture → pos = 48 → p.line = none → (∀ r ∈ s.scan.store.head?, r.line ≠ p.sent + 1) →
      let codes := p.lastCodes.getD (List.replicate 1232 0)
      ∃ t, exec (.samplePosition pos x) s = .next t ∧ t.scan.store = s.scan.store ∧
        t.sender =
          { s.sender with
            tone := .steady (toneFrequency p.copy.white p.copy.black (codes.getD 0 0))
            pass :=
              some
                { p with consecFills := p.consecFills + 1, line := some ⟨codes, true, false, false⟩ } })

/-- The tone computation (R57, R58, R59): a normalised value lies in 0 to 1023 and is 0 and 1023 at the
references; a code lies between the two points of its segment; a frequency lies between WHITE and BLACK and is
one of them at codes 0 and 255. -/
def Obligations.ToneComputation : Prop :=
  (∀ wr br x : Nat, br + 1024 ≤ wr → wr ≤ 4095 →
    normalise wr br x ≤ 1023 ∧ (x ≤ br → normalise wr br x = 0) ∧ (wr ≤ x → normalise wr br x = 1023) ∧
      (br ≤ x → x ≤ wr → normalise wr br x = ((x - br) * 1023 + (wr - br) / 2) / (wr - br))) ∧
  (∀ (curve : List Nat) (n : Nat), curve.length = 17 → n ≤ 1023 →
    let a := curve.getD (n / 64) 0
    let b := curve.getD (n / 64 + 1) 0
    (toneCode curve n : Int) = a + (((b : Int) - a) * (n % 64 : Nat) + 32) / 64 ∧
      min a b ≤ toneCode curve n ∧ toneCode curve n ≤ max a b) ∧
  (∀ fw fb c : Nat, c ≤ 255 →
    (toneFrequency fw fb c : Int) = fw + (((fb : Int) - fw) * c * 2 + 255) / 510 ∧
      min fw fb ≤ toneFrequency fw fb c ∧ toneFrequency fw fb c ≤ max fw fb ∧
      toneFrequency fw fb 0 = fw ∧ toneFrequency fw fb 255 = fb)

/-! ### The circuit -/

/-- The slot record (R98, R99): a carrier and a character mark the slot in progress, and count toward nothing
with rounds stopped. What the record is decided as (R100, R101): the letters' places in the alphabet are R 17,
K 10, N 13, S 18, C 2 and Q 16, and the owner of slot k signs with the letter at place k. -/
def Obligations.SlotRecordDecided : Prop :=
  (∀ (s : State) (ch : ReturnChar), s.powered = true →
     (s.circuit.rounds = none →
       exec .carrierPresent s = .next s ∧ exec (.returnCharacter ch) s = .next s) ∧
     (∀ r, s.circuit.rounds = some r →
       exec .carrierPresent s =
         .next { s with circuit := { s.circuit with rounds := some { r with carrier := true } } } ∧
       exec (.returnCharacter ch) s =
         .next
           { s with
             circuit :=
               { s.circuit with
                 rounds :=
                   some { r with chars := if r.chars.length < 3 then r.chars ++ [ch] else r.chars } } })) ∧
  (∀ r : Rounds,
     let isReply (k : ReplyKind) : Prop :=
       ∃ a b : Fin 26, r.chars = [.letter a, .letter b] ∧ a.val = r.slot ∧
         ((b.val : Nat), k) ∈
           [(17, .ready), (10, .ok), (13, .noise), (18, .stop), (2, .received), (16, ReplyKind.repeatPass)]
     (r.breakSeen = true → decideSlot r = .empty) ∧
     (r.carrier = false → r.chars = [] → decideSlot r = .empty) ∧
     (∀ k, r.breakSeen = false → isReply k → decideSlot r = .reply k) ∧
     (r.breakSeen = false → (r.carrier = true ∨ r.chars ≠ []) → (∀ k, ¬ isReply k) →
       decideSlot r = .garbled))

/-- The end of a slot that is not the last of its round (R102, R103): the garble count, the next slot, the
result noted in the party (R125). A READY that joins in the open window (R116). The other replies of a joined
station in ANSWER, PHASING, PICTURE and PAUSED (R117, R126, R140), with the NO_PARTY failure that a STOP of the
last one brings (R118, R126, R144); in ENDING and GATHERING (R129). A late READY (R119), which the model reports in
ENDING and GATHERING too, where R129 ignores all other replies: read by inference (log entry 21). Replies that are
ignored, all replies in CALLUP (R115) and, but for a late READY, in KILLING (R146) among them. -/
def Obligations.SlotEnds : Prop :=
  ∀ (s : State) (r : Rounds) (p : Pass), s.powered = true → s.resting → s.circuit.rounds = some r →
    s.sender.pass = some p → r.slot + 1 < r.slots →
    let k := decideSlot r
    let owner := r.slot + 1
    let brk := decide (s.circuit.detector = .present ∨ s.circuit.detector = .ending)
    let next : Rounds := ⟨r.slots, r.round, r.slot + 1, r.slotEnds + 250, false, [], brk⟩
    let noted (f : Party → Party) : List Party :=
      p.party.map fun e => if e.station = owner then f { e with result := some ⟨k, r.breakSeen⟩ } else e
    let heard (f : Station → Station) : Circuit :=
      { s.circuit with
        garble := if k = .garbled then min 65535 (s.circuit.garble + 1) else s.circuit.garble
        rounds := some next
        roster := s.circuit.roster.modify r.slot f }
    let quiet : State :=
      { s with
        now := max s.now r.slotEnds
        link := s.link.pumped
        circuit := heard id
        sender := { s.sender with pass := some { p with party := noted id } } }
    let watching :=
      s.sender.circ = .answer ∨ s.sender.circ = .phasing ∨ s.sender.circ = .picture ∨
        s.sender.circ = .paused
    let gathering := s.sender.circ = .ending ∨ s.sender.circ = .gathering
    let lateTime :=
      (s.sender.circ = .answer ∧ p.windowOpen = false) ∨ s.sender.circ = .phasing ∨
        s.sender.circ = .picture ∨ gathering ∨ s.sender.circ = .killing ∨
        (s.sender.circ = .paused ∧ p.resume ≠ some .callup)
    (((∀ x, k ≠ .reply x) ∨ ∀ e ∈ p.party, e.station ≠ owner) → exec .slotEnd s = .next quiet) ∧
    (∀ e, (p.party.find? fun e => e.station == owner) = some e →
      (k = .reply .ready → e.state = .invited → e.maskedInWindow = false → s.sender.circ = .answer →
        p.windowOpen = true →
        exec .slotEnd s =
          .next
            { quiet with
              link := (s.link.posted [.stationJoined p.job owner]).pumped
              circuit := heard fun e => { e with silence := 0 }
              sender :=
                { s.sender with
                  pass :=
                    some
                      { p with
                        party := noted fun e => { e with state := .joined }
                        closeRound :=
                          some
                            (min (r.round + p.copy.answer) (p.openRound.getD 0 + p.copy.answerMax)) } } }) ∧
      (k ∈ [SlotKind.reply .ok, .reply .ready, .reply .received, .reply .repeatPass] → e.state = .joined →
        watching →
        exec .slotEnd s = .next { quiet with circuit := heard fun e => { e with silence := 0 } }) ∧
      (k = .reply .noise → e.state = .joined → watching →
        exec .slotEnd s =
          .next
            { quiet with
              circuit := heard fun e => { e with silence := 0, noise := min 65535 (e.noise + 1) } }) ∧
      (k = .reply .stop → e.state = .joined → watching →
        let stopped : Pass := { p with party := noted fun e => { e with state := .dropped .stop p.sent } }
        let dropped := [Report.stationDropped p.job owner .stop p.sent]
        let tested :=
          (s.sender.circ = .answer ∧ p.windowOpen = false) ∨ s.midPicture p
        let others := ∃ o ∈ p.party, o.station ≠ owner ∧ o.state = .joined
        (others ∨ ¬ tested →
          exec .slotEnd s =
            .next
              { quiet with
                link := (s.link.posted dropped).pumped
                sender := { s.sender with pass := some stopped } }) ∧
        (¬ others → s.midPicture p → p.breakReason = false →
          ∃ t u, exec .slotEnd s = .next t ∧ t.now = quiet.now ∧ t.circuit = quiet.circuit ∧
            t.link = (s.link.posted dropped).pumped ∧
            t.sender = ⟨.killing, some u, .kill t.now, some (t.now + 3000)⟩ ∧
            u.outcome = some .failed ∧ u.reason = some .noParty ∧ u.party = stopped.party ∧
            u.sent = p.sent ∧ u.line = none) ∧
        (¬ others → tested → (s.midPicture p → p.breakReason = true) → s.holdsJob p →
          ∃ t, exec .slotEnd s = .next t ∧ t.now = quiet.now ∧ s.closes t p .failed ∧
            t.link =
              (s.link.posted (dropped ++ p.endReports .failed (some .noParty))).pumped)) ∧
      (∀ st, (k = .reply .received ∧ st = .received) ∨ (k = .reply .repeatPass ∧ st = .repeatAsked) →
        e.state = .joined → gathering →
        exec .slotEnd s =
          .next
            { quiet with
              sender :=
                { s.sender with
                  pass := some { p with party := noted fun e => { e with state := st } } } }) ∧
      (k = .reply .ready → e.state = .absent → lateTime →
        exec .slotEnd s =
          .next
            (if e.lateReported then quiet
            else
              { quiet with
                link := (s.link.posted [.late owner]).pumped
                sender :=
                  { s.sender with
                    pass :=
                      some { p with party := noted fun e => { e with lateReported := true } } } })) ∧
      ((s.sender.circ = .callup ∨ (s.sender.circ = .killing ∧ e.state ≠ .absent) ∨
          (e.state ≠ .joined ∧ (k ≠ .reply .ready ∨ (e.state ≠ .invited ∧ e.state ≠ .absent))) ∨
          (gathering ∧ e.state = .joined ∧ k ≠ .reply .received ∧ k ≠ .reply .repeatPass) ∨
          (e.state = .invited ∧
            (e.maskedInWindow = true ∨ s.sender.circ ≠ .answer ∨ p.windowOpen = false)) ∨
          (e.state = .absent ∧ ¬ lateTime)) →
        exec .slotEnd s = .next quiet))

/-- The end of a round (R102) whose last slot brings the Sender no reply. First what a newly masked station
meets (R127): JOINED it is dropped, INVITED it is marked; nothing in KILLING (R146) and in a pause that restarts
the call-up (R140). Then, by the circuit state, the window opened (R114) or closed (R118), the silence watch in
PHASING and PICTURE (R125) with the NO_PARTY test (R118, R126, R140, R144), the gathering counted and ended
(R129, R130). A round end marked by break counts nothing (R106). The slot results stand in CALLUP before the end of
the signal (R114) and in a pause that restarts the call-up (R140); that they are cleared at every other round end
outside PHASING and PICTURE too (log entry 47), and that several stations are dropped and reported in ascending
order (log entry 44), are the model's choice. -/
def Obligations.RoundEnds : Prop :=
  ∀ (s : State) (r : Rounds) (p : Pass), s.powered = true → s.resting → s.circuit.rounds = some r →
    s.sender.pass = some p → r.slot + 1 = r.slots →
    ((∀ x, decideSlot r ≠ .reply x) ∨ ∀ e ∈ p.party, e.station ≠ r.slot + 1) →
    s.circuit.roster.length = 16 → (∀ e ∈ p.party, 1 ≤ e.station ∧ e.station ≤ 16) →
    (p.party.map (·.station)).Pairwise (· < ·) →
    let k := decideSlot r
    let brk := decide (s.circuit.detector = .present ∨ s.circuit.detector = .ending)
    let noted :=
      p.party.map fun e => if e.station = r.slot + 1 then { e with result := some ⟨k, r.breakSeen⟩ } else e
    let masking := s.sender.circ ≠ .killing ∧ ¬ (s.sender.circ = .paused ∧ p.resume = some .callup)
    let hit (e : Party) : Prop :=
      masking ∧ (s.station e.station).maskPending = true ∧ (s.station e.station).masked = false
    let masked : List Party :=
      noted.map fun e =>
        if hit e ∧ e.state = .joined then { e with state := .dropped .masked p.sent }
        else if hit e ∧ e.state = .invited then { e with maskedInWindow := true }
        else e
    let maskDrops : List Report :=
      (p.party.filter fun e => decide (hit e ∧ e.state = .joined)).map fun e =>
        .stationDropped p.job e.station .masked p.sent
    let cleared (l : List Party) : List Party := l.map fun e => { e with result := none }
    let stands :=
      (s.sender.circ = .callup ∧ p.callDone = false) ∨ (s.sender.circ = .paused ∧ p.resume = some .callup)
    let circuit : Circuit :=
      { s.circuit with
        garble := if k = .garbled then min 65535 (s.circuit.garble + 1) else s.circuit.garble
        rounds := some ⟨r.slots, r.round + 1, 0, r.slotEnds + 250, false, [], brk⟩
        roster := s.circuit.roster.map fun e => { e with masked := e.maskPending } }
    let t : State :=
      { s with
        now := max s.now r.slotEnds
        link := (s.link.posted maskDrops).pumped
        circuit := circuit
        sender := { s.sender with pass := some { p with party := if stands then masked else cleared masked } } }
    ((s.sender.circ = .callup ∧ (p.callDone = false ∨ brk = true)) ∨
        (s.sender.circ = .answer ∧ p.windowOpen = true ∧ (r.round < p.closeRound.getD 0 ∨ brk = true)) ∨
        s.sender.circ = .ending ∨ (s.sender.circ = .gathering ∧ brk = true) ∨
        s.sender.circ = .killing ∨ (s.sender.circ = .paused ∧ ¬ s.midPicture p) →
      exec .slotEnd s = .next t) ∧
    (s.sender.circ = .callup → p.callDone = true → brk = false →
      exec .slotEnd s =
        .next
          { t with
            sender :=
              { s.sender with
                circ := .answer
                pass :=
                  some
                    { p with
                      party := cleared masked
                      windowOpen := true
                      openRound := some r.round
                      closeRound := some (r.round + min p.copy.answer p.copy.answerMax) } } }) ∧
    (s.sender.circ = .answer → p.windowOpen = true → p.closeRound.getD 0 ≤ r.round → brk = false →
      ((∃ e ∈ masked, e.state = .joined) →
        exec .slotEnd s =
          .next
            { t with
              sender :=
                { s.sender with
                  pass :=
                    some
                      { p with
                        windowOpen := false
                        party :=
                          (cleared masked).map fun e =>
                            if e.state = .invited then { e with state := .absent } else e } } }) ∧
      ((∀ e ∈ masked, e.state ≠ .joined) → s.holdsJob p →
        ∀ why, (why = .noParty ∧ ∃ e ∈ masked, ∃ w n, e.state = .dropped w n) ∨
            (why = .noAnswer ∧ ∀ e ∈ masked, ∀ w n, e.state ≠ .dropped w n) →
          ∃ u, exec .slotEnd s = .next u ∧ u.now = t.now ∧ s.closes u p .failed ∧
            u.link = (s.link.posted (maskDrops ++ p.endReports .failed (some why))).pumped)) ∧
    ((s.sender.circ = .answer ∧ p.windowOpen = false) ∨ s.midPicture p →
      let watched := (s.sender.circ = .phasing ∨ s.sender.circ = .picture) ∧ brk = false
      let silent (e : Party) : Prop :=
        watched ∧ e.state = .joined ∧
          (e.result = some ⟨.empty, false⟩ ∨ e.result = some ⟨.garbled, false⟩)
      let count (n : Nat) : Nat := min 12 ((s.station n).silence + 1)
      let lost (e : Party) : Prop := silent e ∧ p.copy.silence ≤ count e.station
      let silentDrops : List Report :=
        (masked.filter fun e => decide (lost e)).map fun e =>
          .stationDropped p.job e.station .silent p.sent
      let after : List Party :=
        cleared (masked.map fun e => if lost e then { e with state := .dropped .silent p.sent } else e)
      ∃ u, exec .slotEnd s = .next u ∧ u.now = t.now ∧
        ((∃ e ∈ after, e.state = .joined) ∨ (∀ e ∈ p.party, e.state ≠ .joined) →
          u.sender = { s.sender with pass := some { p with party := after } } ∧
          u.link = (s.link.posted (maskDrops ++ silentDrops)).pumped ∧
          u.circuit = { circuit with roster := u.circuit.roster } ∧
          ∀ n, 1 ≤ n → n ≤ 16 →
            u.station n =
              { s.station n with
                masked := (s.station n).maskPending
                silence :=
                  if ∃ e ∈ masked, e.station = n ∧ silent e then count n else (s.station n).silence }) ∧
        ((∀ e ∈ after, e.state ≠ .joined) → (∃ e ∈ p.party, e.state = .joined) → s.midPicture p →
          p.breakReason = false →
          u.link = (s.link.posted (maskDrops ++ silentDrops)).pumped ∧
          ∃ q, u.sender = ⟨.killing, some q, .kill u.now, some (u.now + 3000)⟩ ∧
            q.outcome = some .failed ∧ q.reason = some .noParty ∧ q.party = after ∧ q.sent = p.sent ∧
            q.line = none) ∧
        ((∀ e ∈ after, e.state ≠ .joined) → (∃ e ∈ p.party, e.state = .joined) →
          (s.midPicture p → p.breakReason = true) → s.holdsJob p →
          u.link =
            (s.link.posted (maskDrops ++ silentDrops ++ p.endReports .failed (some .noParty))).pumped ∧
          s.closes u p .failed)) ∧
    (s.sender.circ = .gathering → brk = false →
      (p.gatherCount + 1 < p.copy.gather →
        exec .slotEnd s =
          .next
            { t with
              sender :=
                { s.sender with
                  pass :=
                    some { p with party := cleared masked, gatherCount := p.gatherCount + 1 } } }) ∧
      (p.copy.gather ≤ p.gatherCount + 1 → s.holdsJob p →
        let all := ∀ e ∈ masked, e.state = .received ∨ e.state = .absent ∨ e.state = .masked
        let o : PassOutcome := if all then .complete else .partialReceipt
        ∃ u, exec .slotEnd s = .next u ∧ u.now = t.now ∧ s.closes u p o ∧
          u.link = (s.link.posted (maskDrops ++ p.endReports o p.reason)).pumped))

/-- The break detector (R104, R105) with no pass in progress: its two tones and its two timers, the circuit
state following (R107), and the slot in progress marked (R106). A break declared during a pass (R134, R143)
and where the pause takes effect (R136): pending in PHASING and in PICTURE after the take, at once before the
take, and at once in CALLUP, ANSWER, ENDING and GATHERING, each with its resume point; PAUSED it
joins the set, the output silent (R139); in KILLING it closes the pass at once (R146). -/
def Obligations.BreakDetected : Prop :=
  (∀ s : State, s.powered = true →
     (exec .toneOn s =
       .next
         { s with
           circuit :=
             match s.circuit.detector with
             | .clear => { s.circuit with detector := .arming, armingTimer := some (s.now + 300) }
             | .ending => { s.circuit with detector := .present, endingTimer := none }
             | _ => s.circuit }) ∧
     (exec .toneOff s =
       .next
         { s with
           circuit :=
             match s.circuit.detector with
             | .arming => { s.circuit with detector := .clear, armingTimer := none }
             | .present => { s.circuit with detector := .ending, endingTimer := some (s.now + 2000) }
             | _ => s.circuit }) ∧
     (∀ m, s.resting → s.sender.pass = none → s.circuit.detector = .arming →
       s.circuit.armingTimer = some m →
       exec .armingTimerExpiry s =
         .next
           { s with
             now := max s.now m
             link := (s.link.posted [.breakOn]).pumped
             circuit :=
               { s.circuit with
                 detector := .present
                 armingTimer := none
                 rounds := s.circuit.rounds.map fun r => { r with breakSeen := true } }
             sender :=
               if s.sender.circ = .free then ⟨.broken, none, .silent, none⟩ else s.sender }) ∧
     (∀ m, s.resting → s.sender.pass = none → s.circuit.detector = .ending →
       s.circuit.endingTimer = some m →
       exec .endingTimerExpiry s =
         .next
           { s with
             now := max s.now m
             link := (s.link.posted [.breakOff]).pumped
             circuit := { s.circuit with detector := .clear, endingTimer := none }
             sender :=
               if s.sender.circ = .broken then ⟨.free, none, .silent, none⟩ else s.sender })) ∧
  (∀ (s : State) (m : Moment) (p : Pass), s.powered = true → s.resting → s.sender.pass = some p →
     s.circuit.detector = .arming → s.circuit.armingTimer = some m →
     let now := max s.now m
     let broken : Pass :=
       { p with breakReason := true, breakDeadline := some (now + 60000 * s.settings.breakMax) }
     let circuit : Circuit :=
       { s.circuit with
         detector := .present
         armingTimer := none
         rounds := s.circuit.rounds.map fun r => { r with breakSeen := true } }
     ((s.sender.circ = .phasing ∨ (s.sender.circ = .picture ∧ (p.line.isSome ∨ p.pausePending = true))) →
       exec .armingTimerExpiry s =
         .next
           { s with
             now := now
             link := (s.link.posted [.breakOn]).pumped
             circuit := circuit
             sender := { s.sender with pass := some { broken with pausePending := true } } }) ∧
     (s.sender.circ = .picture → p.line = none → p.pausePending = false →
       exec .armingTimerExpiry s =
         .next
           { s with
             now := now
             link := (s.link.posted [.breakOn, .pause p.job p.holdReason true]).pumped
             circuit := circuit
             sender := ⟨.paused, some { broken with resume := some .rephase }, .silent, none⟩ }) ∧
     ((s.sender.circ = .callup ∨ s.sender.circ = .answer) →
       exec .armingTimerExpiry s =
         .next
           { s with
             now := now
             link := (s.link.posted [.breakOn, .pause p.job p.holdReason true]).pumped
             circuit := circuit
             sender :=
               ⟨.paused,
                 some
                   { broken with
                     resume := some .callup
                     pausePending := false
                     line := none
                     windowOpen := false
                     openRound := none
                     closeRound := none
                     party :=
                       p.party.map fun e => if e.state = .joined then { e with state := .invited } else e },
                 .silent, none⟩ }) ∧
     (∀ pt, (s.sender.circ = .ending ∧ pt = .ending) ∨ (s.sender.circ = .gathering ∧ pt = .gathering) →
       exec .armingTimerExpiry s =
         .next
           { s with
             now := now
             link := (s.link.posted [.breakOn, .pause p.job p.holdReason true]).pumped
             circuit := circuit
             sender :=
               ⟨.paused, some { broken with resume := some pt, pausePending := false, line := none }, .silent,
                 none⟩ }) ∧
     (s.sender.circ = .paused →
       exec .armingTimerExpiry s =
         .next
           { s with
             now := now
             link := (s.link.posted [.breakOn, .pause p.job p.holdReason true]).pumped
             circuit := circuit
             sender := { s.sender with pass := some broken, tone := .silent } }) ∧
     (∀ o, s.sender.circ = .killing → p.outcome = some o → s.holdsJob p →
       ∃ t, exec .armingTimerExpiry s = .next t ∧ t.now = now ∧
         t.link = (s.link.posted (.breakOn :: p.endReports o p.reason)).pumped ∧
         State.closes { s with circuit := circuit } t p o))

/-! ### The Sender's timers, failures and the close of a pass -/

/-- The ends of the call-up signal (R112) and of the end signal (R128). The hold deadline (R143) puts a pass whose
picture is being sent into KILLING with HOLD_TIMEOUT (R144, R146). The break deadline (R143) ends the pass at
once, FAILED with BREAK_TIMEOUT, before, in and after the picture. -/
def Obligations.SignalsAndDeadlinesEnd : Prop :=
  (∀ (s : State) (m : Moment) (p : Pass), s.powered = true → s.sender.signalEnds = some m →
     s.sender.pass = some p →
     (s.sender.circ = .callup →
       exec .callupSignalEnd s =
         .next
           { s with
             now := max s.now m
             sender := ⟨.callup, some { p with callDone := true }, .steady p.copy.white, none⟩ }) ∧
     (s.sender.circ = .ending →
       exec .endSignalEnd s =
         .next
           { s with
             now := max s.now m
             sender := ⟨.gathering, some { p with gatherCount := 0 }, .silent, none⟩ })) ∧
  (∀ (s : State) (m : Moment) (p : Pass), s.powered = true → s.resting → s.sender.pass = some p →
     (s.midPicture p → p.holdReason = true → p.holdDeadline = some m → p.breakReason = false →
       exec .holdDeadline s =
         .next
           { s with
             now := max s.now m
             link := s.link.pumped
             scan :=
               match s.scan.pass with
               | none => s.scan
               | some x =>
                 if x.ended then s.scan
                 else { s.scan with store := [], pass := some { x with line := none, ended := true } }
             sender :=
               { circ := .killing
                 pass :=
                   some
                     { p with
                       outcome := some .failed
                       reason := some .holdTimeout
                       holdReason := false
                       pausePending := false
                       resume := none
                       holdDeadline := none
                       breakReason := false
                       breakDeadline := none
                       line := none }
                 tone := .kill (max s.now m)
                 signalEnds := some (max s.now m + 3000) } }) ∧
     (s.unsent p ∨ s.midPicture p ∨ s.sentInFull p → p.breakReason = true → p.breakDeadline = some m →
       s.holdsJob p →
       ∃ t, exec .breakDeadline s = .next t ∧ t.now = max s.now m ∧
         t.link = (s.link.posted (p.endReports .failed (some .breakTimeout))).pumped ∧
         s.closes t p .failed))

/-- The close of a pass (R131) at the end of the kill signal (R146): the circuit, the Scan Unit's context, the
record's pass (R152, R156), its slip entry, `*END`, and the job finished or gone (R21). The printer is out of
paper, so no slip begins. -/
def Obligations.PassClosed : Prop :=
  ∀ (s : State) (m : Moment) (p : Pass) (o : PassOutcome) (x : ScanPass), s.powered = true →
    s.releasedJob = none → s.receipts.printer = .paperOut → s.sender.circ = .killing →
    s.sender.signalEnds = some m → s.sender.pass = some p → p.outcome = some o → p.detached = false →
    s.scan.pass = some x → x.ended = true → s.drive.queueWant.isSome → s.drive.calWant = none →
    s.settings.idle ≠ 0 → (s.queue.jobs.find? fun j => j.number == p.job).isSome →
    (∀ j ∈ s.queue.jobs, j.number = p.job → j.state = .active) →
    let now := max s.now m
    let brk := decide (s.circuit.detector = .present ∨ s.circuit.detector = .ending)
    let settled : PassEntry → PassEntry := fun e =>
      if e.close.isSome then e
      else
        { e with
          close :=
            some
              { stamp := s.backup.clock
                outcome := o
                reason := p.reason
                secondary := p.secondary
                counts := some ⟨p.sent, p.fills, x.heldRefs, x.spoiledLines, x.drift⟩
                slip := if s.settings.copies = 0 then .skipped else .pending
                results :=
                  p.party.map fun e =>
                    { station := e.station
                      name := e.name
                      final :=
                        some
                          (if e.state = .invited then .absent
                          else if e.state = .joined then .noReceipt
                          else e.state)
                      noise := some (s.station e.station).noise } } }
    let drive : Drive :=
      { s.drive with
        queueWant := none
        faultHold := false
        pendingStart := false
        idleTimer := some (now + 1000 * s.settings.idle) }
    let t : State :=
      { s with
        now := now
        drive := drive
        scan := { s.scan with pass := none }
        circuit :=
          { s.circuit with
            rounds := none
            roster := s.circuit.roster.map fun e => { e with masked := e.maskPending } }
        sender := ⟨if brk then .broken else .free, none, .silent, none⟩ }
    let slips :=
      s.receipts.slips ++
        if s.settings.copies = 0 then [] else [⟨p.job, p.number, s.settings.copies, false⟩]
    (o ≠ .killed →
      exec .killSignalEnd s =
        .next
          { t with
            link := (s.link.posted [.passEnd p.job p.number o p.reason]).pumped
            queue :=
              { s.queue with
                jobs := s.queue.jobs.map fun j =>
                  if j.number = p.job then { j with state := .finished } else j }
            receipts :=
              { s.receipts with
                slips := slips
                log := s.receipts.log.map fun r =>
                  if r.job = p.job then { r with passes := r.passes.map settled } else r } }) ∧
    (o = .killed → s.queue.load ≠ .coverOpen →
      exec .killSignalEnd s =
        .next
          { t with
            link := (s.link.posted [.passEnd p.job p.number o p.reason, .loadUnbound]).pumped
            queue :=
              { jobs := s.queue.jobs.filter fun j => j.number != p.job
                load := .unbound
                missing := [] }
            receipts :=
              { s.receipts with
                slips := slips
                log := s.receipts.log.map fun r =>
                  if r.job = p.job then { r with passes := r.passes.map settled, isOpen := false }
                  else r } })

/-- A failure reason by the pass's state (R144, R147), here the lamp fault (R46) with no calibration run: the
pass closed at once before anything was sent and under a break; KILLING while the picture is being sent; the
secondary reason once it was sent or while the kill signal lasts. -/
def Obligations.FailureTaken : Prop :=
  ∀ (s : State) (p : Pass), s.powered = true → s.resting → s.sender.pass = some p → s.cal.run = none →
    (s.drive.lamp = .warming ∨ s.drive.lamp = .ready) → s.settings.idle ≠ 0 →
    ∃ t, exec .lampCurrentFault s = .next t ∧ t.drive.lamp = .fault ∧ t.drive.warmTimer = none ∧
      ((s.unsent p ∨ (s.midPicture p ∧ p.breakReason = true)) → s.holdsJob p →
        t.now = s.now ∧ s.closes t p .failed ∧
          t.link = (s.link.posted (.lampFault :: p.endReports .failed (some .lamp))).pumped) ∧
      (s.midPicture p → p.breakReason = false →
        t.link = (s.link.posted [.lampFault]).pumped ∧ t.sender.circ = .killing ∧
          t.sender.tone = .kill s.now ∧ t.sender.signalEnds = some (s.now + 3000) ∧
          ∃ q, t.sender.pass = some q ∧ q.outcome = some .failed ∧ q.reason = some .lamp ∧
            q.sent = p.sent ∧ q.line = none ∧ q.resume = none ∧ q.holdReason = false) ∧
      (s.sentInFull p ∨ s.sender.circ = .killing →
        t.link = (s.link.posted [.lampFault]).pumped ∧
          t.sender =
            { s.sender with
              pass :=
                some { p with secondary := if p.secondary = none then some .lamp else p.secondary } })

/-! ### The printer -/

/-- A slip's lines and copies (R162): a line that is not the last; the last line of an entry with copies left;
the last line of the only entry. The paper sense (R163): out in READY and in PRINTING, where the slip is cut
and marked for reprint, and in; ignored in the other states. -/
def Obligations.SlipsPrinted : Prop :=
  (∀ (s : State) (pr : Printing) (e : SlipEntry) (rest : List SlipEntry), s.powered = true →
     s.releasedJob = none → s.receipts.printer = .printing → s.receipts.printing = some pr →
     s.receipts.slips = e :: rest →
     let setSlip (st : SlipState) : List Record :=
       s.receipts.log.map fun r =>
         if r.job = e.job then
           { r with passes := r.passes.map fun q =>
               if q.number = e.pass then { q with close := q.close.map fun c => { c with slip := st } }
               else q }
         else r
     (∀ x y more, pr.rest = x :: y :: more →
       exec .slipLinePrinted s =
         .next
           { s with
             now := max s.now pr.lineEnds
             link := s.link.pumped
             receipts := { s.receipts with printing := some ⟨y :: more, pr.lineEnds + 300⟩ } }) ∧
     (∀ x, pr.rest = [x] → 1 < e.copies →
       ∃ (lines : List Text) (t : State), exec .slipLinePrinted s = .next t ∧
         t.link = s.link.pumped ∧ t.now = max s.now pr.lineEnds ∧
         t.receipts =
           { log := setSlip .printing
             slips := { e with copies := e.copies - 1, reprint := false } :: rest
             printer := .printing
             paperPresent := s.receipts.paperPresent
             printing := some ⟨lines, max s.now pr.lineEnds + 300⟩ } ∧
         ∀ r q c, (s.receipts.log.find? fun r => r.job == e.job) = some r →
           (r.passes.find? fun q => q.number == e.pass) = some q → q.close = some c →
           lines = slipLines s.settings.bureau false r q c) ∧
     (∀ x, pr.rest = [x] → e.copies ≤ 1 → rest = [] →
       exec .slipLinePrinted s =
         .next
           { s with
             now := max s.now pr.lineEnds
             link := (s.link.posted [.slip e.job e.pass]).pumped
             receipts :=
               { log := setSlip .printed
                 slips := []
                 printer := .ready
                 paperPresent := s.receipts.paperPresent
                 printing := none } })) ∧
  (∀ s : State, s.powered = true →
     (s.receipts.printer = .ready →
       exec .paperOut s =
         .next
           { s with
             link := (s.link.posted [.paperOut]).pumped
             receipts := { s.receipts with printer := .paperOut, paperPresent := false } }) ∧
     (∀ e rest, s.receipts.printer = .printing → s.receipts.slips = e :: rest →
       exec .paperOut s =
         .next
           { s with
             link := (s.link.posted [.paperOut]).pumped
             receipts :=
               { log := s.receipts.log.map fun r =>
                   if r.job = e.job then
                     { r with passes := r.passes.map fun q =>
                         if q.number = e.pass then
                           { q with close := q.close.map fun c => { c with slip := .pending } }
                         else q }
                   else r
                 slips := { e with reprint := true } :: rest
                 printer := .paperOut
                 paperPresent := false
                 printing := none } }) ∧
     (s.receipts.printer = .paperOut →
       exec .paperOut s = .next { s with link := s.link.pumped } ∧
       (s.receipts.slips = [] →
         exec .paperIn s =
           .next
             { s with
               link := (s.link.posted [.paperIn]).pumped
               receipts := { s.receipts with printer := .ready, paperPresent := true } }) ∧
       (∀ e rest, s.receipts.slips = e :: rest →
         ∃ t pr, exec .paperIn s = .next t ∧ t.link = (s.link.posted [.paperIn]).pumped ∧
           t.receipts.printer = .printing ∧ t.receipts.slips = e :: rest ∧
           t.receipts.printing = some pr ∧ pr.lineEnds = s.now + 300)) ∧
     (s.receipts.printer ≠ .paperOut → exec .paperIn s = .next { s with link := s.link.pumped }))

/-! ### The backup domain and the supply -/

/-- A second boundary (R184): the clock advances, 23:59:59 to the next day and day 9999 to day 1; a clock not
set, or without main power under a set latch, stands still; the release test follows (R14), by the rule that
says when a release time is reached. -/
def Obligations.SecondPasses : Prop :=
  (∀ s : State,
     (s.backup.clock = none → exec .secondEvent s = .next s) ∧
     (∀ c, s.backup.clock = some c →
       let tick : DayTime :=
         if c.sec < 86399 then ⟨c.day, c.sec + 1⟩ else ⟨if c.day < 9999 then c.day + 1 else 1, 0⟩
       let t : State :=
         { s with
           now := max s.now s.backup.secondEnds
           backup := { s.backup with clock := some tick, secondEnds := s.backup.secondEnds + 1000 } }
       (s.powered = false →
         exec .secondEvent s = .next (if s.backup.latch then s else t)) ∧
       (s.powered = true → s.resting →
         (∀ j, (s.queue.jobs.find? fun k => k.state != .queued) = some j → j.state = .mounted →
           ∀ r, j.release = some r → reached (some tick) r = false) →
         exec .secondEvent s = .next { t with link := s.link.pumped }) ∧
       (∀ j r, s.powered = true → s.resting →
         (s.queue.jobs.find? fun k => k.state != .queued) = some j → j.state = .mounted →
         (s.queue.jobs.find? fun k => k.number == j.number) = some j → j.release = some r →
         reached (some tick) r = true → s.queue.load ≠ .coverOpen → s.drive.lamp = .warming →
         (s.drive.drum = .spinningUp ∨ s.drive.drum = .slewing ∨ s.drive.drum = .locking) →
         s.drive.pendingStart = false → s.cal.state = .fresh → s.sender.circ = .free →
         s.receipts.log.length < 16 →
         exec .secondEvent s =
           .next
             { t with
               link :=
                 (s.link.posted [.release j.number .time, .wait j.number [.drum, .lamp]]).pumped
               queue :=
                 { s.queue with
                   missing := [.drum, .lamp]
                   jobs := s.queue.jobs.map fun k =>
                     if k.number = j.number then
                       { k with state := .released, pendingTrigger := false, calTried := false }
                     else k }
               drive := { s.drive with queueWant := some j.speed, idleTimer := none } }))) ∧
  (∀ r : DayTime, reached none r = false ∧
     ∀ c : DayTime, reached (some c) r = true ↔
       ¬ (r.day = 1 ∧ c.day = 9999) ∧ (r.day < c.day ∨ (r.day = c.day ∧ r.sec ≤ c.sec)))

/-- Loss of main power (R183) and the power-up after it (R187): `*POWER` comes first; with the latch set the log,
the slip queue, the clock and the counter are lost; with it clear they are kept, and (R166) each pass in progress
closes INTERRUPTED with reason POWER and queues its slip, a slip that was PRINTING returns to PENDING with its entry
marked for reprint, a closed pass keeps the rest of its contents, every record closes, and the oldest slip begins
(R162). The latch is cleared. The battery monitor (R182), followed with and without main power and reported with it,
and the retention latch (R183). -/
def Obligations.SupplyFailsAndReturns : Prop :=
  (∀ (s : State) (pins : PowerPins),
     (s.powered = false → exec .mainPowerLoss s = .next s) ∧
     (s.powered = true →
       ∃ t, exec .mainPowerLoss s = .next t ∧ t.powered = false ∧ t.backup = s.backup ∧
         t.receipts.log = s.receipts.log ∧ t.receipts.slips = s.receipts.slips ∧ t.queue.jobs = [] ∧
         t.sender.pass = none ∧ t.settings = Settings.default) ∧
     ∃ t, exec (.powerUp pins) s = .next t ∧ t.powered = true ∧ t.settings = Settings.default ∧
       t.queue = ⟨[], if pins.coverClosed then .unbound else .coverOpen, []⟩ ∧
       t.cal = ⟨.none, 32, 3600, 400, none, false, none⟩ ∧
       t.sender = ⟨.free, none, .silent, none⟩ ∧ t.scan.pass = none ∧ t.scan.store = [] ∧
       t.circuit.roster = List.replicate 16 ⟨none, false, false, 0, 0⟩ ∧ t.circuit.rounds = none ∧
       t.circuit.garble = 0 ∧
       t.circuit.armingTimer = (if pins.tonePresent then some (s.now + 300) else none) ∧
       t.drive.drum = .parked ∧ t.drive.lamp = .off ∧ t.drive.carriage = .unhomed ∧
       t.link.sending = some (.report (.power (!s.backup.latch))) ∧
       t.link.reports =
         (match pins.battery with
         | .good => []
         | .low => [.batteryLow]
         | .failed => [.batteryFailed]) ∧
       t.link.baud = pins.baud ∧ t.backup.latch = false ∧ t.backup.battery = pins.battery ∧
       t.receipts.paperPresent = pins.paperPresent ∧
       (pins.paperPresent = false → t.receipts.printer = .paperOut ∧ t.receipts.printing = none) ∧
       (s.backup.latch = true →
         t.receipts.log = [] ∧ t.receipts.slips = [] ∧ t.backup.clock = none ∧ t.backup.counter = 1 ∧
         (pins.paperPresent = true → t.receipts.printer = .ready ∧ t.receipts.printing = none)) ∧
       (s.backup.latch = false →
         t.backup.clock = s.backup.clock ∧ t.backup.counter = s.backup.counter ∧
         let settled (e : PassEntry) : PassEntry :=
           { e with
             close :=
               match e.close with
               | none =>
                 some
                   { stamp := s.backup.clock
                     outcome := .interrupted
                     reason := some .power
                     secondary := none
                     counts := none
                     slip := .pending
                     results := e.stations.map fun n => ⟨n, none, none, none⟩ }
               | some c => some { c with slip := if c.slip = .printing then .pending else c.slip } }
         let log : List Record :=
           s.receipts.log.map fun r => { r with isOpen := false, passes := r.passes.map settled }
         let wasPrinting (x : SlipEntry) : Prop :=
           ∃ r ∈ s.receipts.log, r.job = x.job ∧
             ∃ e ∈ r.passes, e.number = x.pass ∧ (e.close.map (·.slip)) = some .printing
         let slips : List SlipEntry :=
           (s.receipts.slips.map fun x => if wasPrinting x then { x with reprint := true } else x) ++
             s.receipts.log.flatMap fun r =>
               (r.passes.filter fun e => e.close.isNone).map fun e => ⟨r.job, e.number, 1, false⟩
         t.receipts.slips = slips ∧
         (pins.paperPresent = false ∨ slips = [] → t.receipts.log = log) ∧
         (pins.paperPresent = true → slips = [] →
           t.receipts.printer = .ready ∧ t.receipts.printing = none) ∧
         ∀ x rest, pins.paperPresent = true → slips = x :: rest →
           t.receipts.printer = .printing ∧
           t.receipts.printing.map (·.lineEnds) = some (s.now + 300) ∧
           t.receipts.log =
             log.map fun r =>
               if r.job = x.job then
                 { r with passes := r.passes.map fun e =>
                     if e.number = x.pass then { e with close := e.close.map fun c => { c with slip := .printing } }
                     else e }
               else r)) ∧
  (∀ (s : State) (b : Battery),
     (s.powered = true →
       exec (.batteryChange b) s =
         .next
           { s with
             link :=
               (s.link.posted
                 (if b = s.backup.battery then []
                 else match b with
                   | .good => []
                   | .low => [.batteryLow]
                   | .failed => [.batteryFailed])).pumped
             backup := { s.backup with battery := b } }) ∧
     (s.powered = false →
       exec (.batteryChange b) s = .next { s with backup := { s.backup with battery := b } }) ∧
     exec .retentionLatchSet s =
       .next (if s.powered then s else { s with backup := { s.backup with latch := true } }))

/-! ### The whole part -/

/-- Which commands can change what a station wrote and what the backup domain keeps: the settings only `SET`,
the loss of main power and power-up; the clock only `CLOCK`, the second event and power-up; the counter only
`QUEUE` and power-up; the latch only its own event and power-up (R177, R184 to R186, R183). A line may be
completed by a carriage return, and a held one is taken when a line was sent. -/
def Obligations.OnlyTheirCommandsWrite : Prop :=
  ∀ (c : Instr) (s t : State), exec c s = .next t →
    (∀ x, c ≠ .characterReceived x) → c ≠ .lineSent →
    ((∀ a, c ≠ .setKeys a) → (∀ q, c ≠ .powerUp q) → c ≠ .mainPowerLoss → t.settings = s.settings) ∧
    ((∀ a, c ≠ .clockSet a) → (∀ q, c ≠ .powerUp q) → c ≠ .secondEvent →
      t.backup.clock = s.backup.clock) ∧
    ((∀ a, c ≠ .queue a) → (∀ q, c ≠ .powerUp q) → t.backup.counter = s.backup.counter) ∧
    ((∀ q, c ≠ .powerUp q) → c ≠ .retentionLatchSet → t.backup.latch = s.backup.latch)

/-- Every step keeps the Link Unit within what it can hold (R167, R172) and the day clock a time (R184). -/
def Obligations.LinkAndClockBounded : Prop :=
  ∀ s t : State, s.linkBounded → s.clockOk → step s = .next t →
    t.linkBounded ∧ t.clockOk

/-- Every step keeps the capacities of the line store (R65), the circuit's counts (section 5.1, R92, R103),
the queue, the log and the counter (R2, R153, R186), the drive's counts (R26, R36, R40, R48) and the gain step
(R75, R79). -/
def Obligations.CapacitiesKept : Prop :=
  ∀ s t : State, s.storeBounded → s.circuitBounded → s.queueBounded → s.driveBounded →
    s.gainBounded → step s = .next t →
    t.storeBounded ∧ t.circuitBounded ∧ t.queueBounded ∧ t.driveBounded ∧ t.gainBounded

/-- Every step keeps the agreement of queue, load state and pass (R3, R6, R11, R20): distinct job numbers,
at most one mounted job, BOUND exactly with one, and the pass that of the ACTIVE job unless detached. -/
def Obligations.BindingKept : Prop :=
  ∀ s t : State, s.queueBounded → s.bindingOk → step s = .next t → t.bindingOk

/-- Every step keeps the references of the Scan Unit and the Calibration Unit apart (R52, R54, R80). -/
def Obligations.ReferencesStayApart : Prop :=
  ∀ s t : State, s.scan.br + 1024 ≤ s.scan.wr → s.cal.b0 + 1024 ≤ s.cal.w0 →
    step s = .next t → t.scan.br + 1024 ≤ t.scan.wr ∧ t.cal.b0 + 1024 ≤ t.cal.w0

/-- What a first power-up leaves (R187, R25, R49, R60, R74, R75, R88, R107, R110, R176, R180, R186): the values the
manual gives. It keeps every invariant that a statement supposes. -/
def Obligations.ResetState : Prop :=
  (State.reset.powered = true ∧ State.reset.queue.jobs = [] ∧ State.reset.drive.drum = .parked ∧
     State.reset.drive.carriage = .unhomed ∧ State.reset.drive.lamp = .off ∧
     State.reset.drive.spinUps = [] ∧ State.reset.cal = ⟨.none, 32, 3600, 400, none, false, none⟩ ∧
     State.reset.scan.curve1 =
       [255, 239, 223, 207, 191, 175, 159, 143, 127, 111, 95, 79, 63, 47, 31, 15, 0] ∧
     State.reset.scan.store = [] ∧ State.reset.scan.pass = none ∧
     State.reset.circuit.roster = List.replicate 16 ⟨none, false, false, 0, 0⟩ ∧
     State.reset.circuit.rounds = none ∧ State.reset.circuit.garble = 0 ∧
     State.reset.circuit.detector = .clear ∧
     State.reset.sender = ⟨.free, none, .silent, none⟩ ∧
     State.reset.settings =
       { guarded := ⟨2200, 1400, 20, 8, 2, 6, 16, 6, 3⟩
         idle := 120
         calDrift := 6
         holdMax := 5
         breakMax := 10
         copies := 1
         progress := 100
         bureau := ['B', 'U', 'R', 'E', 'A', 'U'] } ∧
     State.reset.receipts.log = [] ∧ State.reset.receipts.slips = [] ∧
     State.reset.backup.clock = none ∧ State.reset.backup.counter = 1 ∧ State.reset.backup.latch = false ∧
     State.reset.link.sending = some (.report (.power false)) ∧ State.reset.link.reports = [] ∧
     State.reset.link.held = none ∧ State.reset.pending = []) ∧
  (State.reset.linkBounded ∧ State.reset.clockOk ∧ State.reset.storeBounded ∧ State.reset.circuitBounded ∧
     State.reset.queueBounded ∧ State.reset.driveBounded ∧ State.reset.gainBounded ∧ State.reset.bindingOk ∧
     State.reset.scan.br + 1024 ≤ State.reset.scan.wr ∧ State.reset.cal.b0 + 1024 ≤ State.reset.cal.w0)

/-- How a pass goes on. A reason leaving the set at the end of a break (R134, R138): a pending pause kept or
cancelled (R136); a pause that HOLD still holds, or that waits for an index mark with an empty set (R139, R141);
and the pause that resumes at once (R141), in GATHERING, in ENDING with its end signal anew (R128), and in CALLUP
with the call-up of R113 anew, which fails with NO_ANSWER where it invites no station, `*RESUME` standing before
that `*END`: the model's choice (log entry 51). At an index mark: a pause
whose set is not empty goes on; one that waits takes its resumption, a rephase (R142) or PHASING afresh; and
ANSWER with the window closed and a station JOINED enters PHASING (R120). -/
def Obligations.PassGoesOn : Prop :=
  (∀ (s : State) (m : Moment) (p : Pass), s.powered = true → s.resting → s.sender.pass = some p →
     p.breakReason = true → s.circuit.detector = .ending → s.circuit.endingTimer = some m →
     let now := max s.now m
     let circuit : Circuit := { s.circuit with detector := .clear, endingTimer := none }
     let cleared : Pass := { p with breakReason := false, breakDeadline := none }
     let after (more : List Report) (x : Sender) : State :=
       { s with
         now := now
         link := (s.link.posted (.breakOff :: more)).pumped
         circuit := circuit
         sender := x }
     ((s.sender.circ = .phasing ∨ s.sender.circ = .picture) →
       exec .endingTimerExpiry s =
         .next
           (after []
             { s.sender with
               pass :=
                 some
                   { cleared with
                     pausePending := if p.holdReason then p.pausePending else false } })) ∧
     (s.sender.circ = .paused → p.holdReason = true →
       exec .endingTimerExpiry s =
         .next
           (after [.pause p.job true false]
             { s.sender with pass := some cleared, tone := .steady p.copy.white })) ∧
     (s.sender.circ = .paused → p.holdReason = false →
       (p.resume = some .rephase ∨ p.resume = some .phasing →
         exec .endingTimerExpiry s =
           .next (after [] { s.sender with pass := some cleared, tone := .steady p.copy.white })) ∧
       (p.resume = some .gathering →
         exec .endingTimerExpiry s =
           .next
             (after [.resume p.job .gathering]
               ⟨.gathering, some { cleared with resume := none }, .silent, none⟩)) ∧
       (p.resume = some .ending → (∀ x, s.scan.pass = some x → x.ended = true) →
         exec .endingTimerExpiry s =
           .next
             (after [.resume p.job .ending]
               ⟨.ending, some { cleared with resume := none }, .steady p.copy.black,
                 some (now + 3000)⟩)) ∧
       (p.resume = some .callup →
         let party : List Party :=
           p.stations.map fun n =>
             { station := n
               name := (s.station n).name
               state :=
                 if (s.station n).name = none then .absent
                 else if (s.station n).maskPending then .masked
                 else .invited
               maskedInWindow := false
               lateReported := false
               result := none }
         let called := (party.filter fun e => e.state == .invited).map (·.station)
         (called ≠ [] →
           ∃ t, exec .endingTimerExpiry s = .next t ∧ t.now = now ∧
             t.link = (s.link.posted [.breakOff, .resume p.job .callup]).pumped ∧
             t.sender =
               ⟨.callup,
                 some
                   { cleared with
                     resume := none
                     party := party
                     callDone := false
                     windowOpen := false
                     openRound := none
                     closeRound := none },
                 .callup called now, some (now + (2000 + 500 * called.length))⟩ ∧
             t.circuit =
               { circuit with
                 roster :=
                   s.circuit.roster.map fun e =>
                     { e with masked := e.maskPending, silence := 0, noise := 0 }
                 rounds := some ⟨p.copy.slots, 1, 0, now + 250, false, [], false⟩ } ∧
             t.drive.stepFaults = 0 ∧
             (s.drive.carriage = .home → t.drive.carriage = .home) ∧
             (s.drive.carriage = .unhomed ∨ s.drive.carriage = .stepping →
               t.drive.carriage = .returning ∧ t.drive.returnTimer = some (now + 3000)) ∧
             t.scan = s.scan ∧ t.queue = s.queue ∧ t.receipts = s.receipts ∧ t.cal = s.cal) ∧
         (called = [] → s.holdsJob p →
           ∃ t, exec .endingTimerExpiry s = .next t ∧ t.now = now ∧
             t.link =
               (s.link.posted
                 (.breakOff :: .resume p.job .callup :: p.endReports .failed (some .noAnswer))).pumped ∧
             State.closes { s with circuit := circuit } t p .failed)))) ∧
  (∀ (s : State) (period : Nat) (v : Speed) (p : Pass), s.powered = true → s.resting →
     s.drive.drum = .locked → s.drive.lockedAt = some v →
     (withinError 10 v period ∨ s.drive.lossCount = 0) → s.cal.run = none → s.cal.request = false →
     s.sender.pass = some p → (s.sender.circ = .paused ∨ s.sender.circ = .answer) →
     ∃ t, exec (.indexMark period) s = .next t ∧ t.settings = s.settings ∧ t.queue = s.queue ∧
       t.circuit = s.circuit ∧ t.receipts = s.receipts ∧ t.cal = s.cal ∧
       t.drive.position = s.drive.position ∧
       (∀ x, s.scan.pass = some x → x.line = none → t.scan = s.scan) ∧
       (∀ y, t.scan.pass = some y → y.line = none) ∧
       (s.sender.circ = .paused → (p.holdReason = true ∨ p.breakReason = true) →
         t.sender = s.sender ∧ t.link = s.link.pumped) ∧
       (∀ pt, s.sender.circ = .paused → p.holdReason = false → p.breakReason = false →
         p.resume = some pt → (pt = .rephase ∨ pt = .phasing) →
         t.link = (s.link.posted [.resume p.job pt]).pumped ∧
         t.sender =
           { circ := .phasing
             pass :=
               some
                 { p with
                   resume := none
                   rephase := decide (pt = .rephase)
                   phaseCount := 0
                   lastPhasing := false }
             tone := s.sender.tone
             signalEnds := none }) ∧
       (s.sender.circ = .answer → t.link = s.link.pumped ∧
         t.sender =
           if p.windowOpen = false ∧ ∃ e ∈ p.party, e.state = .joined then
             { circ := .phasing
               pass := some { p with rephase := false, phaseCount := 0, lastPhasing := false }
               tone := s.sender.tone
               signalEnds := none }
           else s.sender))
end

