-- ==== Sys2Proof/Laws/State.lean ====
section
/-! SUPPORT. One lemma per field of `State` for each update of a block, and for the small operations that
change one block only. All hold by unfolding. -/

namespace Sys2Proof.Machine

variable (s : State)

/-! ### `State.onLink` -/

@[simp] theorem State.onLink_powered (f : Link → Link) : (s.onLink f).powered = s.powered := rfl
@[simp] theorem State.onLink_now (f : Link → Link) : (s.onLink f).now = s.now := rfl
@[simp] theorem State.onLink_link (f : Link → Link) : (s.onLink f).link = f s.link := rfl
@[simp] theorem State.onLink_settings (f : Link → Link) : (s.onLink f).settings = s.settings := rfl
@[simp] theorem State.onLink_queue (f : Link → Link) : (s.onLink f).queue = s.queue := rfl
@[simp] theorem State.onLink_drive (f : Link → Link) : (s.onLink f).drive = s.drive := rfl
@[simp] theorem State.onLink_cal (f : Link → Link) : (s.onLink f).cal = s.cal := rfl
@[simp] theorem State.onLink_scan (f : Link → Link) : (s.onLink f).scan = s.scan := rfl
@[simp] theorem State.onLink_circuit (f : Link → Link) : (s.onLink f).circuit = s.circuit := rfl
@[simp] theorem State.onLink_sender (f : Link → Link) : (s.onLink f).sender = s.sender := rfl
@[simp] theorem State.onLink_receipts (f : Link → Link) : (s.onLink f).receipts = s.receipts := rfl
@[simp] theorem State.onLink_backup (f : Link → Link) : (s.onLink f).backup = s.backup := rfl
@[simp] theorem State.onLink_pending (f : Link → Link) : (s.onLink f).pending = s.pending := rfl

/-! ### `State.onSettings` -/

@[simp] theorem State.onSettings_powered (f : Settings → Settings) : (s.onSettings f).powered = s.powered := rfl
@[simp] theorem State.onSettings_now (f : Settings → Settings) : (s.onSettings f).now = s.now := rfl
@[simp] theorem State.onSettings_link (f : Settings → Settings) : (s.onSettings f).link = s.link := rfl
@[simp] theorem State.onSettings_settings (f : Settings → Settings) : (s.onSettings f).settings = f s.settings := rfl
@[simp] theorem State.onSettings_queue (f : Settings → Settings) : (s.onSettings f).queue = s.queue := rfl
@[simp] theorem State.onSettings_drive (f : Settings → Settings) : (s.onSettings f).drive = s.drive := rfl
@[simp] theorem State.onSettings_cal (f : Settings → Settings) : (s.onSettings f).cal = s.cal := rfl
@[simp] theorem State.onSettings_scan (f : Settings → Settings) : (s.onSettings f).scan = s.scan := rfl
@[simp] theorem State.onSettings_circuit (f : Settings → Settings) : (s.onSettings f).circuit = s.circuit := rfl
@[simp] theorem State.onSettings_sender (f : Settings → Settings) : (s.onSettings f).sender = s.sender := rfl
@[simp] theorem State.onSettings_receipts (f : Settings → Settings) : (s.onSettings f).receipts = s.receipts := rfl
@[simp] theorem State.onSettings_backup (f : Settings → Settings) : (s.onSettings f).backup = s.backup := rfl
@[simp] theorem State.onSettings_pending (f : Settings → Settings) : (s.onSettings f).pending = s.pending := rfl

/-! ### `State.onQueue` -/

@[simp] theorem State.onQueue_powered (f : Queue → Queue) : (s.onQueue f).powered = s.powered := rfl
@[simp] theorem State.onQueue_now (f : Queue → Queue) : (s.onQueue f).now = s.now := rfl
@[simp] theorem State.onQueue_link (f : Queue → Queue) : (s.onQueue f).link = s.link := rfl
@[simp] theorem State.onQueue_settings (f : Queue → Queue) : (s.onQueue f).settings = s.settings := rfl
@[simp] theorem State.onQueue_queue (f : Queue → Queue) : (s.onQueue f).queue = f s.queue := rfl
@[simp] theorem State.onQueue_drive (f : Queue → Queue) : (s.onQueue f).drive = s.drive := rfl
@[simp] theorem State.onQueue_cal (f : Queue → Queue) : (s.onQueue f).cal = s.cal := rfl
@[simp] theorem State.onQueue_scan (f : Queue → Queue) : (s.onQueue f).scan = s.scan := rfl
@[simp] theorem State.onQueue_circuit (f : Queue → Queue) : (s.onQueue f).circuit = s.circuit := rfl
@[simp] theorem State.onQueue_sender (f : Queue → Queue) : (s.onQueue f).sender = s.sender := rfl
@[simp] theorem State.onQueue_receipts (f : Queue → Queue) : (s.onQueue f).receipts = s.receipts := rfl
@[simp] theorem State.onQueue_backup (f : Queue → Queue) : (s.onQueue f).backup = s.backup := rfl
@[simp] theorem State.onQueue_pending (f : Queue → Queue) : (s.onQueue f).pending = s.pending := rfl

/-! ### `State.onDrive` -/

@[simp] theorem State.onDrive_powered (f : Drive → Drive) : (s.onDrive f).powered = s.powered := rfl
@[simp] theorem State.onDrive_now (f : Drive → Drive) : (s.onDrive f).now = s.now := rfl
@[simp] theorem State.onDrive_link (f : Drive → Drive) : (s.onDrive f).link = s.link := rfl
@[simp] theorem State.onDrive_settings (f : Drive → Drive) : (s.onDrive f).settings = s.settings := rfl
@[simp] theorem State.onDrive_queue (f : Drive → Drive) : (s.onDrive f).queue = s.queue := rfl
@[simp] theorem State.onDrive_drive (f : Drive → Drive) : (s.onDrive f).drive = f s.drive := rfl
@[simp] theorem State.onDrive_cal (f : Drive → Drive) : (s.onDrive f).cal = s.cal := rfl
@[simp] theorem State.onDrive_scan (f : Drive → Drive) : (s.onDrive f).scan = s.scan := rfl
@[simp] theorem State.onDrive_circuit (f : Drive → Drive) : (s.onDrive f).circuit = s.circuit := rfl
@[simp] theorem State.onDrive_sender (f : Drive → Drive) : (s.onDrive f).sender = s.sender := rfl
@[simp] theorem State.onDrive_receipts (f : Drive → Drive) : (s.onDrive f).receipts = s.receipts := rfl
@[simp] theorem State.onDrive_backup (f : Drive → Drive) : (s.onDrive f).backup = s.backup := rfl
@[simp] theorem State.onDrive_pending (f : Drive → Drive) : (s.onDrive f).pending = s.pending := rfl

/-! ### `State.onCal` -/

@[simp] theorem State.onCal_powered (f : Calib → Calib) : (s.onCal f).powered = s.powered := rfl
@[simp] theorem State.onCal_now (f : Calib → Calib) : (s.onCal f).now = s.now := rfl
@[simp] theorem State.onCal_link (f : Calib → Calib) : (s.onCal f).link = s.link := rfl
@[simp] theorem State.onCal_settings (f : Calib → Calib) : (s.onCal f).settings = s.settings := rfl
@[simp] theorem State.onCal_queue (f : Calib → Calib) : (s.onCal f).queue = s.queue := rfl
@[simp] theorem State.onCal_drive (f : Calib → Calib) : (s.onCal f).drive = s.drive := rfl
@[simp] theorem State.onCal_cal (f : Calib → Calib) : (s.onCal f).cal = f s.cal := rfl
@[simp] theorem State.onCal_scan (f : Calib → Calib) : (s.onCal f).scan = s.scan := rfl
@[simp] theorem State.onCal_circuit (f : Calib → Calib) : (s.onCal f).circuit = s.circuit := rfl
@[simp] theorem State.onCal_sender (f : Calib → Calib) : (s.onCal f).sender = s.sender := rfl
@[simp] theorem State.onCal_receipts (f : Calib → Calib) : (s.onCal f).receipts = s.receipts := rfl
@[simp] theorem State.onCal_backup (f : Calib → Calib) : (s.onCal f).backup = s.backup := rfl
@[simp] theorem State.onCal_pending (f : Calib → Calib) : (s.onCal f).pending = s.pending := rfl

/-! ### `State.onScan` -/

@[simp] theorem State.onScan_powered (f : Scan → Scan) : (s.onScan f).powered = s.powered := rfl
@[simp] theorem State.onScan_now (f : Scan → Scan) : (s.onScan f).now = s.now := rfl
@[simp] theorem State.onScan_link (f : Scan → Scan) : (s.onScan f).link = s.link := rfl
@[simp] theorem State.onScan_settings (f : Scan → Scan) : (s.onScan f).settings = s.settings := rfl
@[simp] theorem State.onScan_queue (f : Scan → Scan) : (s.onScan f).queue = s.queue := rfl
@[simp] theorem State.onScan_drive (f : Scan → Scan) : (s.onScan f).drive = s.drive := rfl
@[simp] theorem State.onScan_cal (f : Scan → Scan) : (s.onScan f).cal = s.cal := rfl
@[simp] theorem State.onScan_scan (f : Scan → Scan) : (s.onScan f).scan = f s.scan := rfl
@[simp] theorem State.onScan_circuit (f : Scan → Scan) : (s.onScan f).circuit = s.circuit := rfl
@[simp] theorem State.onScan_sender (f : Scan → Scan) : (s.onScan f).sender = s.sender := rfl
@[simp] theorem State.onScan_receipts (f : Scan → Scan) : (s.onScan f).receipts = s.receipts := rfl
@[simp] theorem State.onScan_backup (f : Scan → Scan) : (s.onScan f).backup = s.backup := rfl
@[simp] theorem State.onScan_pending (f : Scan → Scan) : (s.onScan f).pending = s.pending := rfl

/-! ### `State.onCircuit` -/

@[simp] theorem State.onCircuit_powered (f : Circuit → Circuit) : (s.onCircuit f).powered = s.powered := rfl
@[simp] theorem State.onCircuit_now (f : Circuit → Circuit) : (s.onCircuit f).now = s.now := rfl
@[simp] theorem State.onCircuit_link (f : Circuit → Circuit) : (s.onCircuit f).link = s.link := rfl
@[simp] theorem State.onCircuit_settings (f : Circuit → Circuit) : (s.onCircuit f).settings = s.settings := rfl
@[simp] theorem State.onCircuit_queue (f : Circuit → Circuit) : (s.onCircuit f).queue = s.queue := rfl
@[simp] theorem State.onCircuit_drive (f : Circuit → Circuit) : (s.onCircuit f).drive = s.drive := rfl
@[simp] theorem State.onCircuit_cal (f : Circuit → Circuit) : (s.onCircuit f).cal = s.cal := rfl
@[simp] theorem State.onCircuit_scan (f : Circuit → Circuit) : (s.onCircuit f).scan = s.scan := rfl
@[simp] theorem State.onCircuit_circuit (f : Circuit → Circuit) : (s.onCircuit f).circuit = f s.circuit := rfl
@[simp] theorem State.onCircuit_sender (f : Circuit → Circuit) : (s.onCircuit f).sender = s.sender := rfl
@[simp] theorem State.onCircuit_receipts (f : Circuit → Circuit) : (s.onCircuit f).receipts = s.receipts := rfl
@[simp] theorem State.onCircuit_backup (f : Circuit → Circuit) : (s.onCircuit f).backup = s.backup := rfl
@[simp] theorem State.onCircuit_pending (f : Circuit → Circuit) : (s.onCircuit f).pending = s.pending := rfl

/-! ### `State.onSender` -/

@[simp] theorem State.onSender_powered (f : Sender → Sender) : (s.onSender f).powered = s.powered := rfl
@[simp] theorem State.onSender_now (f : Sender → Sender) : (s.onSender f).now = s.now := rfl
@[simp] theorem State.onSender_link (f : Sender → Sender) : (s.onSender f).link = s.link := rfl
@[simp] theorem State.onSender_settings (f : Sender → Sender) : (s.onSender f).settings = s.settings := rfl
@[simp] theorem State.onSender_queue (f : Sender → Sender) : (s.onSender f).queue = s.queue := rfl
@[simp] theorem State.onSender_drive (f : Sender → Sender) : (s.onSender f).drive = s.drive := rfl
@[simp] theorem State.onSender_cal (f : Sender → Sender) : (s.onSender f).cal = s.cal := rfl
@[simp] theorem State.onSender_scan (f : Sender → Sender) : (s.onSender f).scan = s.scan := rfl
@[simp] theorem State.onSender_circuit (f : Sender → Sender) : (s.onSender f).circuit = s.circuit := rfl
@[simp] theorem State.onSender_sender (f : Sender → Sender) : (s.onSender f).sender = f s.sender := rfl
@[simp] theorem State.onSender_receipts (f : Sender → Sender) : (s.onSender f).receipts = s.receipts := rfl
@[simp] theorem State.onSender_backup (f : Sender → Sender) : (s.onSender f).backup = s.backup := rfl
@[simp] theorem State.onSender_pending (f : Sender → Sender) : (s.onSender f).pending = s.pending := rfl

/-! ### `State.onReceipts` -/

@[simp] theorem State.onReceipts_powered (f : Receipts → Receipts) : (s.onReceipts f).powered = s.powered := rfl
@[simp] theorem State.onReceipts_now (f : Receipts → Receipts) : (s.onReceipts f).now = s.now := rfl
@[simp] theorem State.onReceipts_link (f : Receipts → Receipts) : (s.onReceipts f).link = s.link := rfl
@[simp] theorem State.onReceipts_settings (f : Receipts → Receipts) : (s.onReceipts f).settings = s.settings := rfl
@[simp] theorem State.onReceipts_queue (f : Receipts → Receipts) : (s.onReceipts f).queue = s.queue := rfl
@[simp] theorem State.onReceipts_drive (f : Receipts → Receipts) : (s.onReceipts f).drive = s.drive := rfl
@[simp] theorem State.onReceipts_cal (f : Receipts → Receipts) : (s.onReceipts f).cal = s.cal := rfl
@[simp] theorem State.onReceipts_scan (f : Receipts → Receipts) : (s.onReceipts f).scan = s.scan := rfl
@[simp] theorem State.onReceipts_circuit (f : Receipts → Receipts) : (s.onReceipts f).circuit = s.circuit := rfl
@[simp] theorem State.onReceipts_sender (f : Receipts → Receipts) : (s.onReceipts f).sender = s.sender := rfl
@[simp] theorem State.onReceipts_receipts (f : Receipts → Receipts) : (s.onReceipts f).receipts = f s.receipts := rfl
@[simp] theorem State.onReceipts_backup (f : Receipts → Receipts) : (s.onReceipts f).backup = s.backup := rfl
@[simp] theorem State.onReceipts_pending (f : Receipts → Receipts) : (s.onReceipts f).pending = s.pending := rfl

/-! ### `State.onBackup` -/

@[simp] theorem State.onBackup_powered (f : Backup → Backup) : (s.onBackup f).powered = s.powered := rfl
@[simp] theorem State.onBackup_now (f : Backup → Backup) : (s.onBackup f).now = s.now := rfl
@[simp] theorem State.onBackup_link (f : Backup → Backup) : (s.onBackup f).link = s.link := rfl
@[simp] theorem State.onBackup_settings (f : Backup → Backup) : (s.onBackup f).settings = s.settings := rfl
@[simp] theorem State.onBackup_queue (f : Backup → Backup) : (s.onBackup f).queue = s.queue := rfl
@[simp] theorem State.onBackup_drive (f : Backup → Backup) : (s.onBackup f).drive = s.drive := rfl
@[simp] theorem State.onBackup_cal (f : Backup → Backup) : (s.onBackup f).cal = s.cal := rfl
@[simp] theorem State.onBackup_scan (f : Backup → Backup) : (s.onBackup f).scan = s.scan := rfl
@[simp] theorem State.onBackup_circuit (f : Backup → Backup) : (s.onBackup f).circuit = s.circuit := rfl
@[simp] theorem State.onBackup_sender (f : Backup → Backup) : (s.onBackup f).sender = s.sender := rfl
@[simp] theorem State.onBackup_receipts (f : Backup → Backup) : (s.onBackup f).receipts = s.receipts := rfl
@[simp] theorem State.onBackup_backup (f : Backup → Backup) : (s.onBackup f).backup = f s.backup := rfl
@[simp] theorem State.onBackup_pending (f : Backup → Backup) : (s.onBackup f).pending = s.pending := rfl

/-! ### `State.onPass` -/

@[simp] theorem State.onPass_powered (f : Pass → Pass) : (s.onPass f).powered = s.powered := rfl
@[simp] theorem State.onPass_now (f : Pass → Pass) : (s.onPass f).now = s.now := rfl
@[simp] theorem State.onPass_link (f : Pass → Pass) : (s.onPass f).link = s.link := rfl
@[simp] theorem State.onPass_settings (f : Pass → Pass) : (s.onPass f).settings = s.settings := rfl
@[simp] theorem State.onPass_queue (f : Pass → Pass) : (s.onPass f).queue = s.queue := rfl
@[simp] theorem State.onPass_drive (f : Pass → Pass) : (s.onPass f).drive = s.drive := rfl
@[simp] theorem State.onPass_cal (f : Pass → Pass) : (s.onPass f).cal = s.cal := rfl
@[simp] theorem State.onPass_scan (f : Pass → Pass) : (s.onPass f).scan = s.scan := rfl
@[simp] theorem State.onPass_circuit (f : Pass → Pass) : (s.onPass f).circuit = s.circuit := rfl
@[simp] theorem State.onPass_receipts (f : Pass → Pass) : (s.onPass f).receipts = s.receipts := rfl
@[simp] theorem State.onPass_backup (f : Pass → Pass) : (s.onPass f).backup = s.backup := rfl
@[simp] theorem State.onPass_pending (f : Pass → Pass) : (s.onPass f).pending = s.pending := rfl

@[simp] theorem State.onPass_pass (f : Pass → Pass) :
    (s.onPass f).sender.pass = s.sender.pass.map f := rfl
@[simp] theorem State.onPass_circ (f : Pass → Pass) : (s.onPass f).sender.circ = s.sender.circ := rfl
@[simp] theorem State.onPass_tone (f : Pass → Pass) : (s.onPass f).sender.tone = s.sender.tone := rfl
@[simp] theorem State.onPass_signalEnds (f : Pass → Pass) : (s.onPass f).sender.signalEnds = s.sender.signalEnds := rfl

/-! ### `State.onScanPass` -/

@[simp] theorem State.onScanPass_powered (f : ScanPass → ScanPass) : (s.onScanPass f).powered = s.powered := rfl
@[simp] theorem State.onScanPass_now (f : ScanPass → ScanPass) : (s.onScanPass f).now = s.now := rfl
@[simp] theorem State.onScanPass_link (f : ScanPass → ScanPass) : (s.onScanPass f).link = s.link := rfl
@[simp] theorem State.onScanPass_settings (f : ScanPass → ScanPass) : (s.onScanPass f).settings = s.settings := rfl
@[simp] theorem State.onScanPass_queue (f : ScanPass → ScanPass) : (s.onScanPass f).queue = s.queue := rfl
@[simp] theorem State.onScanPass_drive (f : ScanPass → ScanPass) : (s.onScanPass f).drive = s.drive := rfl
@[simp] theorem State.onScanPass_cal (f : ScanPass → ScanPass) : (s.onScanPass f).cal = s.cal := rfl
@[simp] theorem State.onScanPass_circuit (f : ScanPass → ScanPass) : (s.onScanPass f).circuit = s.circuit := rfl
@[simp] theorem State.onScanPass_sender (f : ScanPass → ScanPass) : (s.onScanPass f).sender = s.sender := rfl
@[simp] theorem State.onScanPass_receipts (f : ScanPass → ScanPass) : (s.onScanPass f).receipts = s.receipts := rfl
@[simp] theorem State.onScanPass_backup (f : ScanPass → ScanPass) : (s.onScanPass f).backup = s.backup := rfl
@[simp] theorem State.onScanPass_pending (f : ScanPass → ScanPass) : (s.onScanPass f).pending = s.pending := rfl

@[simp] theorem State.onScanPass_pass (f : ScanPass → ScanPass) :
    (s.onScanPass f).scan.pass = s.scan.pass.map f := rfl
@[simp] theorem State.onScanPass_store (f : ScanPass → ScanPass) :
    (s.onScanPass f).scan.store = s.scan.store := rfl

/-! ### `post` -/

@[simp] theorem post_powered (r : Report) : (post r s).powered = s.powered := rfl
@[simp] theorem post_now (r : Report) : (post r s).now = s.now := rfl
@[simp] theorem post_settings (r : Report) : (post r s).settings = s.settings := rfl
@[simp] theorem post_queue (r : Report) : (post r s).queue = s.queue := rfl
@[simp] theorem post_drive (r : Report) : (post r s).drive = s.drive := rfl
@[simp] theorem post_cal (r : Report) : (post r s).cal = s.cal := rfl
@[simp] theorem post_scan (r : Report) : (post r s).scan = s.scan := rfl
@[simp] theorem post_circuit (r : Report) : (post r s).circuit = s.circuit := rfl
@[simp] theorem post_sender (r : Report) : (post r s).sender = s.sender := rfl
@[simp] theorem post_receipts (r : Report) : (post r s).receipts = s.receipts := rfl
@[simp] theorem post_backup (r : Report) : (post r s).backup = s.backup := rfl
@[simp] theorem post_pending (r : Report) : (post r s).pending = s.pending := rfl

/-! ### `advanceTo` -/

@[simp] theorem advanceTo_powered (m : Moment) : (advanceTo m s).powered = s.powered := rfl
@[simp] theorem advanceTo_link (m : Moment) : (advanceTo m s).link = s.link := rfl
@[simp] theorem advanceTo_settings (m : Moment) : (advanceTo m s).settings = s.settings := rfl
@[simp] theorem advanceTo_queue (m : Moment) : (advanceTo m s).queue = s.queue := rfl
@[simp] theorem advanceTo_drive (m : Moment) : (advanceTo m s).drive = s.drive := rfl
@[simp] theorem advanceTo_cal (m : Moment) : (advanceTo m s).cal = s.cal := rfl
@[simp] theorem advanceTo_scan (m : Moment) : (advanceTo m s).scan = s.scan := rfl
@[simp] theorem advanceTo_circuit (m : Moment) : (advanceTo m s).circuit = s.circuit := rfl
@[simp] theorem advanceTo_sender (m : Moment) : (advanceTo m s).sender = s.sender := rfl
@[simp] theorem advanceTo_receipts (m : Moment) : (advanceTo m s).receipts = s.receipts := rfl
@[simp] theorem advanceTo_backup (m : Moment) : (advanceTo m s).backup = s.backup := rfl
@[simp] theorem advanceTo_pending (m : Moment) : (advanceTo m s).pending = s.pending := rfl

@[simp] theorem advanceTo_now (m : Moment) : (advanceTo m s).now = max s.now m := rfl

/-! ### `updJob` -/

@[simp] theorem updJob_powered (n : Nat) (f : Job → Job) : (updJob n f s).powered = s.powered := rfl
@[simp] theorem updJob_now (n : Nat) (f : Job → Job) : (updJob n f s).now = s.now := rfl
@[simp] theorem updJob_link (n : Nat) (f : Job → Job) : (updJob n f s).link = s.link := rfl
@[simp] theorem updJob_settings (n : Nat) (f : Job → Job) : (updJob n f s).settings = s.settings := rfl
@[simp] theorem updJob_drive (n : Nat) (f : Job → Job) : (updJob n f s).drive = s.drive := rfl
@[simp] theorem updJob_cal (n : Nat) (f : Job → Job) : (updJob n f s).cal = s.cal := rfl
@[simp] theorem updJob_scan (n : Nat) (f : Job → Job) : (updJob n f s).scan = s.scan := rfl
@[simp] theorem updJob_circuit (n : Nat) (f : Job → Job) : (updJob n f s).circuit = s.circuit := rfl
@[simp] theorem updJob_sender (n : Nat) (f : Job → Job) : (updJob n f s).sender = s.sender := rfl
@[simp] theorem updJob_receipts (n : Nat) (f : Job → Job) : (updJob n f s).receipts = s.receipts := rfl
@[simp] theorem updJob_backup (n : Nat) (f : Job → Job) : (updJob n f s).backup = s.backup := rfl
@[simp] theorem updJob_pending (n : Nat) (f : Job → Job) : (updJob n f s).pending = s.pending := rfl

@[simp] theorem updJob_load (n : Nat) (f : Job → Job) : (updJob n f s).queue.load = s.queue.load := rfl
@[simp] theorem updJob_missing (n : Nat) (f : Job → Job) :
    (updJob n f s).queue.missing = s.queue.missing := rfl

/-! ### `updStation` -/

@[simp] theorem updStation_powered (n : Nat) (f : Station → Station) : (updStation n f s).powered = s.powered := rfl
@[simp] theorem updStation_now (n : Nat) (f : Station → Station) : (updStation n f s).now = s.now := rfl
@[simp] theorem updStation_link (n : Nat) (f : Station → Station) : (updStation n f s).link = s.link := rfl
@[simp] theorem updStation_settings (n : Nat) (f : Station → Station) : (updStation n f s).settings = s.settings := rfl
@[simp] theorem updStation_queue (n : Nat) (f : Station → Station) : (updStation n f s).queue = s.queue := rfl
@[simp] theorem updStation_drive (n : Nat) (f : Station → Station) : (updStation n f s).drive = s.drive := rfl
@[simp] theorem updStation_cal (n : Nat) (f : Station → Station) : (updStation n f s).cal = s.cal := rfl
@[simp] theorem updStation_scan (n : Nat) (f : Station → Station) : (updStation n f s).scan = s.scan := rfl
@[simp] theorem updStation_sender (n : Nat) (f : Station → Station) : (updStation n f s).sender = s.sender := rfl
@[simp] theorem updStation_receipts (n : Nat) (f : Station → Station) : (updStation n f s).receipts = s.receipts := rfl
@[simp] theorem updStation_backup (n : Nat) (f : Station → Station) : (updStation n f s).backup = s.backup := rfl
@[simp] theorem updStation_pending (n : Nat) (f : Station → Station) : (updStation n f s).pending = s.pending := rfl

/-! ### `updRecord` -/

@[simp] theorem updRecord_powered (n : Nat) (f : Record → Record) : (updRecord n f s).powered = s.powered := rfl
@[simp] theorem updRecord_now (n : Nat) (f : Record → Record) : (updRecord n f s).now = s.now := rfl
@[simp] theorem updRecord_link (n : Nat) (f : Record → Record) : (updRecord n f s).link = s.link := rfl
@[simp] theorem updRecord_settings (n : Nat) (f : Record → Record) : (updRecord n f s).settings = s.settings := rfl
@[simp] theorem updRecord_queue (n : Nat) (f : Record → Record) : (updRecord n f s).queue = s.queue := rfl
@[simp] theorem updRecord_drive (n : Nat) (f : Record → Record) : (updRecord n f s).drive = s.drive := rfl
@[simp] theorem updRecord_cal (n : Nat) (f : Record → Record) : (updRecord n f s).cal = s.cal := rfl
@[simp] theorem updRecord_scan (n : Nat) (f : Record → Record) : (updRecord n f s).scan = s.scan := rfl
@[simp] theorem updRecord_circuit (n : Nat) (f : Record → Record) : (updRecord n f s).circuit = s.circuit := rfl
@[simp] theorem updRecord_sender (n : Nat) (f : Record → Record) : (updRecord n f s).sender = s.sender := rfl
@[simp] theorem updRecord_backup (n : Nat) (f : Record → Record) : (updRecord n f s).backup = s.backup := rfl
@[simp] theorem updRecord_pending (n : Nat) (f : Record → Record) : (updRecord n f s).pending = s.pending := rfl

/-! ### `updParty` -/

@[simp] theorem updParty_powered (n : Nat) (f : Party → Party) : (updParty n f s).powered = s.powered := rfl
@[simp] theorem updParty_now (n : Nat) (f : Party → Party) : (updParty n f s).now = s.now := rfl
@[simp] theorem updParty_link (n : Nat) (f : Party → Party) : (updParty n f s).link = s.link := rfl
@[simp] theorem updParty_settings (n : Nat) (f : Party → Party) : (updParty n f s).settings = s.settings := rfl
@[simp] theorem updParty_queue (n : Nat) (f : Party → Party) : (updParty n f s).queue = s.queue := rfl
@[simp] theorem updParty_drive (n : Nat) (f : Party → Party) : (updParty n f s).drive = s.drive := rfl
@[simp] theorem updParty_cal (n : Nat) (f : Party → Party) : (updParty n f s).cal = s.cal := rfl
@[simp] theorem updParty_scan (n : Nat) (f : Party → Party) : (updParty n f s).scan = s.scan := rfl
@[simp] theorem updParty_circuit (n : Nat) (f : Party → Party) : (updParty n f s).circuit = s.circuit := rfl
@[simp] theorem updParty_receipts (n : Nat) (f : Party → Party) : (updParty n f s).receipts = s.receipts := rfl
@[simp] theorem updParty_backup (n : Nat) (f : Party → Party) : (updParty n f s).backup = s.backup := rfl
@[simp] theorem updParty_pending (n : Nat) (f : Party → Party) : (updParty n f s).pending = s.pending := rfl

/-! ### `setCirc` -/

@[simp] theorem setCirc_powered (c : CircuitState) (t : Tone) : (setCirc c t s).powered = s.powered := rfl
@[simp] theorem setCirc_now (c : CircuitState) (t : Tone) : (setCirc c t s).now = s.now := rfl
@[simp] theorem setCirc_link (c : CircuitState) (t : Tone) : (setCirc c t s).link = s.link := rfl
@[simp] theorem setCirc_settings (c : CircuitState) (t : Tone) : (setCirc c t s).settings = s.settings := rfl
@[simp] theorem setCirc_queue (c : CircuitState) (t : Tone) : (setCirc c t s).queue = s.queue := rfl
@[simp] theorem setCirc_drive (c : CircuitState) (t : Tone) : (setCirc c t s).drive = s.drive := rfl
@[simp] theorem setCirc_cal (c : CircuitState) (t : Tone) : (setCirc c t s).cal = s.cal := rfl
@[simp] theorem setCirc_scan (c : CircuitState) (t : Tone) : (setCirc c t s).scan = s.scan := rfl
@[simp] theorem setCirc_circuit (c : CircuitState) (t : Tone) : (setCirc c t s).circuit = s.circuit := rfl
@[simp] theorem setCirc_receipts (c : CircuitState) (t : Tone) : (setCirc c t s).receipts = s.receipts := rfl
@[simp] theorem setCirc_backup (c : CircuitState) (t : Tone) : (setCirc c t s).backup = s.backup := rfl
@[simp] theorem setCirc_pending (c : CircuitState) (t : Tone) : (setCirc c t s).pending = s.pending := rfl

@[simp] theorem setCirc_circ (c : CircuitState) (t : Tone) : (setCirc c t s).sender.circ = c := rfl
@[simp] theorem setCirc_tone (c : CircuitState) (t : Tone) : (setCirc c t s).sender.tone = t := rfl
@[simp] theorem setCirc_pass (c : CircuitState) (t : Tone) :
    (setCirc c t s).sender.pass = s.sender.pass := rfl

end Sys2Proof.Machine
end

