-- ==== Sys2Proof/Laws/Frames.lean ====
section
/-! SUPPORT. What every operation inside the part leaves alone, said once for each: `Inner s t` says that
`t` keeps the power, the waiting commands, the settings and the backup domain of `s`, and that its link
differs by posted reports only. Each lemma adds one operation to such a passage. -/

namespace Sys2Proof.Machine

/-! ### Posted reports -/

theorem posted_nil (l : Link) : l.posted [] = l := by simp [Link.posted]

theorem posted_append (l : Link) (a b : List Report) :
    (l.posted a).posted b = l.posted (a ++ b) := by
  have h : ∀ c n k : Nat, c - (n + min (c - n) k) = c - n - k := by intros; omega
  have g : ∀ c n k m : Nat, (c - n < k ∨ c - (n + min (c - n) k) < m) ↔ c - n < k + m := by
    intros; omega
  simp only [Link.posted, Link.mk.injEq, and_true, true_and, List.length_append, List.length_take,
    List.append_assoc, List.take_append, h, Bool.or_assoc,
    ← Bool.decide_or]
  rw [← h]
  simp only [g]

theorem post_link (r : Report) (s : State) : (post r s).link = s.link.posted [r] := by
  have : Config.reportCap = 32 := rfl
  simp only [post, State.onLink, Link.posted, List.length_singleton]
  split
  · rename_i h
    rw [show Config.reportCap - s.link.reports.length =
      (Config.reportCap - s.link.reports.length - 1) + 1 by omega]
    simp
  · rename_i h
    rw [show Config.reportCap - s.link.reports.length = 0 by omega]
    simp

theorem postAll_link (rs : List Report) (s : State) : (postAll rs s).link = s.link.posted rs := by
  unfold postAll
  induction rs generalizing s with
  | nil => simp [posted_nil]
  | cons r rs ih => simp [ih, post_link, posted_append]

/-! ### The passage -/

/-- From `s` to `t` nothing changed but the working blocks, the running time and reports posted. -/
structure Inner (s t : State) : Prop where
  powered : t.powered = s.powered
  pending : t.pending = s.pending
  settings : t.settings = s.settings
  backup : t.backup = s.backup
  link : ∃ rs, t.link = s.link.posted rs

variable {s t u : State}

theorem Inner.refl (s : State) : Inner s s := ⟨rfl, rfl, rfl, rfl, [], (posted_nil _).symm⟩

theorem Inner.trans (h : Inner s t) (k : Inner t u) : Inner s u := by
  obtain ⟨a, ha⟩ := h.link
  obtain ⟨b, hb⟩ := k.link
  exact ⟨k.powered.trans h.powered, k.pending.trans h.pending, k.settings.trans h.settings,
    k.backup.trans h.backup, a ++ b, by rw [hb, ha, posted_append]⟩

theorem Inner.post (h : Inner s t) (r : Report) : Inner s (post r t) :=
  h.trans ⟨rfl, rfl, rfl, rfl, [r], post_link r t⟩

theorem Inner.advance (h : Inner s t) (m : Moment) : Inner s (advanceTo m t) :=
  h.trans ⟨rfl, rfl, rfl, rfl, [], (posted_nil _).symm⟩

theorem Inner.onQueue (h : Inner s t) (f : Queue → Queue) : Inner s (t.onQueue f) :=
  h.trans ⟨rfl, rfl, rfl, rfl, [], (posted_nil _).symm⟩

theorem Inner.onDrive (h : Inner s t) (f : Drive → Drive) : Inner s (t.onDrive f) :=
  h.trans ⟨rfl, rfl, rfl, rfl, [], (posted_nil _).symm⟩

theorem Inner.onCal (h : Inner s t) (f : Calib → Calib) : Inner s (t.onCal f) :=
  h.trans ⟨rfl, rfl, rfl, rfl, [], (posted_nil _).symm⟩

theorem Inner.onScan (h : Inner s t) (f : Scan → Scan) : Inner s (t.onScan f) :=
  h.trans ⟨rfl, rfl, rfl, rfl, [], (posted_nil _).symm⟩

theorem Inner.onCircuit (h : Inner s t) (f : Circuit → Circuit) : Inner s (t.onCircuit f) :=
  h.trans ⟨rfl, rfl, rfl, rfl, [], (posted_nil _).symm⟩

theorem Inner.onSender (h : Inner s t) (f : Sender → Sender) : Inner s (t.onSender f) :=
  h.trans ⟨rfl, rfl, rfl, rfl, [], (posted_nil _).symm⟩

theorem Inner.onReceipts (h : Inner s t) (f : Receipts → Receipts) : Inner s (t.onReceipts f) :=
  h.trans ⟨rfl, rfl, rfl, rfl, [], (posted_nil _).symm⟩

theorem updJob_inner (h : Inner s t) (n : Nat) (f : Job → Job) : Inner s (updJob n f t) := h.onQueue _

theorem updStation_inner (h : Inner s t) (n : Nat) (f : Station → Station) :
    Inner s (updStation n f t) := h.onCircuit _

theorem updRecord_inner (h : Inner s t) (n : Nat) (f : Record → Record) :
    Inner s (updRecord n f t) := h.onReceipts _

theorem onPass_inner (h : Inner s t) (f : Pass → Pass) : Inner s (t.onPass f) := h.onSender _

theorem onScanPass_inner (h : Inner s t) (f : ScanPass → ScanPass) : Inner s (t.onScanPass f) :=
  h.onScan _

/-! ### The drive -/

theorem motorOff_inner (h : Inner s t) : Inner s (motorOff t) := by
  unfold motorOff
  dsimp only
  repeat' split
  all_goals repeat (first | exact h | with_reducible first | apply Inner.post | apply Inner.onDrive)

theorem staleLamp_inner (h : Inner s t) : Inner s (staleLamp t) := by
  unfold staleLamp
  repeat' split
  all_goals repeat (first | exact h | with_reducible first | apply Inner.post | apply Inner.onCal)

theorem lampOff_inner (h : Inner s t) : Inner s (lampOff t) := by
  unfold lampOff
  repeat' split
  all_goals repeat
    first
    | exact h
    | with_reducible
      first
      | apply Inner.onDrive
      | apply staleLamp_inner

theorem idleExpire_inner (h : Inner s t) : Inner s (idleExpire t) := by
  unfold idleExpire
  repeat
    first
    | exact h
    | with_reducible
      first
      | apply Inner.onDrive
      | apply motorOff_inner
      | apply lampOff_inner

theorem lampOn_inner (h : Inner s t) : Inner s (lampOn t) := by
  unfold lampOn
  repeat' split
  all_goals repeat (first | exact h | with_reducible first | apply Inner.onDrive)

theorem spinUp_inner (h : Inner s t) (w : Speed) : Inner s (spinUp w t) := by
  unfold spinUp
  dsimp only
  repeat' split
  all_goals repeat
    first
    | exact h
    | with_reducible
      first
      | apply Inner.post
      | apply Inner.advance
      | apply Inner.onDrive

theorem slew_inner (h : Inner s t) (w : Speed) : Inner s (slew w t) := by
  unfold slew
  repeat (first | exact h | with_reducible first | apply Inner.post | apply Inner.onDrive)

theorem serveDrum_inner (h : Inner s t) : Inner s (serveDrum t) := by
  unfold serveDrum
  repeat' split
  all_goals repeat (first | exact h | with_reducible first | apply spinUp_inner | apply slew_inner)

theorem serve_inner (h : Inner s t) : Inner s (serve t) := by
  unfold serve
  repeat (first | exact h | with_reducible first | apply serveDrum_inner | apply lampOn_inner)

theorem beginIdle_inner (h : Inner s t) : Inner s (beginIdle t) := by
  unfold beginIdle
  dsimp only
  repeat' split
  all_goals repeat
    first
    | exact h
    | with_reducible
      first
      | apply Inner.onDrive
      | apply idleExpire_inner

theorem wantWithdrawn_inner (h : Inner s t) : Inner s (wantWithdrawn t) := by
  unfold wantWithdrawn
  repeat' split
  all_goals repeat
    first
    | exact h
    | with_reducible
      first
      | apply beginIdle_inner
      | apply serve_inner

theorem raiseQueueWant_inner (h : Inner s t) (w : Speed) : Inner s (raiseQueueWant w t) := by
  unfold raiseQueueWant
  repeat (first | exact h | with_reducible first | apply Inner.onDrive | apply serve_inner)

theorem withdrawQueueWant_inner (h : Inner s t) : Inner s (withdrawQueueWant t) := by
  unfold withdrawQueueWant
  repeat' split
  all_goals repeat
    first
    | exact h
    | with_reducible
      first
      | apply Inner.onDrive
      | apply wantWithdrawn_inner

theorem raiseCalWant_inner (h : Inner s t) (w : Speed) : Inner s (raiseCalWant w t) := by
  unfold raiseCalWant
  repeat (first | exact h | with_reducible first | apply Inner.onDrive | apply serve_inner)

theorem withdrawCalWant_inner (h : Inner s t) : Inner s (withdrawCalWant t) := by
  unfold withdrawCalWant
  repeat' split
  all_goals repeat
    first
    | exact h
    | with_reducible
      first
      | apply Inner.onDrive
      | apply wantWithdrawn_inner

theorem orderReturn_inner (h : Inner s t) : Inner s (orderReturn t) := by
  unfold orderReturn
  repeat' split
  all_goals repeat (first | exact h | with_reducible first | apply Inner.onDrive)

theorem passToDrive_inner (h : Inner s t) : Inner s (passToDrive t) := by
  unfold passToDrive
  repeat (first | exact h | with_reducible first | apply Inner.onDrive | apply orderReturn_inner)

theorem orderStep_inner (h : Inner s t) (p : Pitch) : Inner s (orderStep p t) := by
  unfold orderStep
  all_goals repeat (first | exact h | with_reducible first | apply Inner.onDrive)

/-! ### Calibration -/

theorem askCalibration_inner (h : Inner s t) : Inner s (askCalibration t) := by
  unfold askCalibration
  repeat' split
  all_goals repeat
    first
    | exact h
    | with_reducible
      first
      | apply Inner.onCal
      | apply raiseCalWant_inner

theorem endRequest_inner (h : Inner s t) : Inner s (endRequest t) := by
  unfold endRequest
  repeat (first | exact h | with_reducible first | apply Inner.onCal | apply withdrawCalWant_inner)

theorem abortRun_inner (h : Inner s t) : Inner s (abortRun t) := by
  unfold abortRun
  dsimp only
  repeat' split
  all_goals repeat
    first
    | exact h
    | with_reducible
      first
      | apply Inner.post
      | apply Inner.onQueue
      | apply Inner.onCal
      | apply endRequest_inner

theorem calDriveFault_inner (h : Inner s t) : Inner s (calDriveFault t) := by
  unfold calDriveFault
  repeat' split
  all_goals repeat
    first
    | exact h
    | with_reducible
      first
      | apply abortRun_inner
      | apply endRequest_inner

theorem beginRun_inner (h : Inner s t) : Inner s (beginRun t) := by
  unfold beginRun
  repeat (first | exact h | with_reducible first | apply Inner.post | apply Inner.onCal)

theorem openRevolution_inner (h : Inner s t) (r : CalRun) : Inner s (openRevolution r t) := by
  unfold openRevolution
  repeat (first | exact h | with_reducible first | apply Inner.onCal)

theorem passRun_inner (h : Inner s t) (r : CalRun) (w b : Nat) : Inner s (passRun r w b t) := by
  unfold passRun
  repeat
    first
    | exact h
    | with_reducible
      first
      | apply Inner.post
      | apply Inner.onCal
      | apply endRequest_inner

theorem failRun_inner (h : Inner s t) (r : CalRun) : Inner s (failRun r t) := by
  unfold failRun
  repeat
    first
    | exact h
    | with_reducible
      first
      | apply Inner.post
      | apply Inner.onCal
      | apply endRequest_inner

theorem completeStep_inner (h : Inner s t) (r : CalRun) : Inner s (completeStep r t) := by
  unfold completeStep
  dsimp only
  repeat' split
  all_goals repeat
    first
    | exact h
    | with_reducible
      first
      | apply openRevolution_inner
      | apply passRun_inner
      | apply failRun_inner

theorem spoiledStep_inner (h : Inner s t) (r : CalRun) : Inner s (spoiledStep r t) := by
  unfold spoiledStep
  repeat' split
  all_goals repeat
    first
    | exact h
    | with_reducible
      first
      | apply abortRun_inner
      | apply openRevolution_inner

theorem calIndex_inner (h : Inner s t) (locked good : Bool) : Inner s (calIndex locked good t) := by
  unfold calIndex
  repeat' split
  all_goals repeat
    first
    | exact h
    | with_reducible
      first
      | apply completeStep_inner
      | apply spoiledStep_inner
      | apply beginRun_inner

theorem calSample_inner (h : Inner s t) (p x : Nat) : Inner s (calSample p x t) := by
  unfold calSample
  repeat' split
  all_goals repeat (first | exact h | with_reducible first | apply Inner.onCal)

theorem calTemperature_inner (h : Inner s t) (d : Nat) : Inner s (calTemperature d t) := by
  unfold calTemperature
  dsimp only
  repeat' split
  all_goals repeat
    first
    | exact h
    | with_reducible
      first
      | apply Inner.post
      | apply Inner.onCal
      | apply onScanPass_inner

/-! ### Circuit and scan -/

theorem applyMask_inner (h : Inner s t) : Inner s (applyMask t) := by
  unfold applyMask
  repeat (first | exact h | with_reducible first | apply Inner.onCircuit)

theorem zeroCounts_inner (h : Inner s t) : Inner s (zeroCounts t) := by
  unfold zeroCounts
  repeat (first | exact h | with_reducible first | apply Inner.onCircuit)

theorem startRounds_inner (h : Inner s t) (slots : Nat) : Inner s (startRounds slots t) := by
  unfold startRounds
  repeat
    first
    | exact h
    | with_reducible
      first
      | apply Inner.onCircuit
      | apply applyMask_inner
      | apply zeroCounts_inner

theorem stopRounds_inner (h : Inner s t) : Inner s (stopRounds t) := by
  unfold stopRounds
  repeat (first | exact h | with_reducible first | apply Inner.onCircuit | apply applyMask_inner)

theorem scanBegin_inner (h : Inner s t) (j : Job) : Inner s (scanBegin j t) := by
  unfold scanBegin
  repeat (first | exact h | with_reducible first | apply Inner.onScan)

theorem scanEnd_inner (h : Inner s t) : Inner s (scanEnd t) := by
  unfold scanEnd
  all_goals repeat (first | exact h | with_reducible first | apply Inner.onScan)

theorem spoilLine_inner (h : Inner s t) : Inner s (spoilLine t) := by
  unfold spoilLine
  repeat (first | exact h | with_reducible first | apply onScanPass_inner)

theorem beginLine_inner (h : Inner s t) (p : Permission) (locked : Bool) : Inner s (beginLine p locked t) := by
  unfold beginLine
  dsimp only
  repeat' split
  all_goals repeat
    first
    | exact h
    | with_reducible
      first
      | apply onScanPass_inner
      | apply orderStep_inner

/-! ### Receipts -/

theorem openRecord_inner (h : Inner s t) (j : Job) : Inner s (openRecord j t) := by
  unfold openRecord
  dsimp only
  all_goals repeat (first | exact h | with_reducible first | apply Inner.onReceipts)

theorem appendPass_inner (h : Inner s t) (j : Job) : Inner s (appendPass j t) := by
  unfold appendPass
  repeat (first | exact h | with_reducible first | apply updRecord_inner)

theorem recordStart_inner (h : Inner s t) (j : Job) : Inner s (recordStart j t) := by
  unfold recordStart
  repeat' split
  all_goals repeat
    first
    | exact h
    | with_reducible
      first
      | apply openRecord_inner
      | apply appendPass_inner

theorem closeRecord_inner (h : Inner s t) (n : Nat) : Inner s (closeRecord n t) := by
  unfold closeRecord
  repeat' split
  all_goals repeat (first | exact h | with_reducible first | apply updRecord_inner)

theorem completePass_inner (h : Inner s t) (p : Pass) (o : PassOutcome) : Inner s (completePass p o t) := by
  unfold completePass
  dsimp only
  repeat
    first
    | exact h
    | with_reducible
      first
      | apply Inner.onReceipts
      | apply updRecord_inner
      | apply closeRecord_inner

theorem setSlip_inner (h : Inner s t) (n p : Nat) (x : SlipState) : Inner s (setSlip n p x t) := by
  unfold setSlip
  all_goals repeat (first | exact h | with_reducible first | apply updRecord_inner)

theorem beginSlip_inner (h : Inner s t) (e : SlipEntry) : Inner s (beginSlip e t) := by
  unfold beginSlip
  repeat (first | exact h | with_reducible first | apply Inner.onReceipts | apply setSlip_inner)

theorem kick_inner (h : Inner s t) : Inner s (kick t) := by
  unfold kick
  repeat' split
  all_goals repeat (first | exact h | with_reducible first | apply beginSlip_inner)

theorem copyDone_inner (h : Inner s t) : Inner s (copyDone t) := by
  unfold copyDone
  dsimp only
  repeat' split
  all_goals repeat
    first
    | exact h
    | with_reducible
      first
      | apply Inner.post
      | apply Inner.onReceipts
      | apply beginSlip_inner
      | apply kick_inner
      | apply setSlip_inner

theorem slipLineDone_inner (h : Inner s t) : Inner s (slipLineDone t) := by
  unfold slipLineDone
  dsimp only
  repeat' split
  all_goals repeat
    first
    | exact h
    | with_reducible
      first
      | apply Inner.advance
      | apply Inner.onReceipts
      | apply copyDone_inner

theorem cutSlip_inner (h : Inner s t) : Inner s (cutSlip t) := by
  unfold cutSlip
  repeat' split
  all_goals repeat
    first
    | exact h
    | with_reducible
      first
      | apply Inner.onReceipts
      | apply setSlip_inner

/-! ### The queue -/

theorem release_inner (h : Inner s t) (c : ReleaseCause) (j : Job) : Inner s (release c j t) := by
  unfold release
  repeat
    first
    | exact h
    | with_reducible
      first
      | apply Inner.post
      | apply Inner.onQueue
      | apply updJob_inner
      | apply raiseQueueWant_inner

theorem bindingCheck_inner (h : Inner s t) (j : Job) : Inner s (bindingCheck j t) := by
  unfold bindingCheck
  repeat' split
  all_goals repeat (first | exact h | with_reducible first | apply release_inner)

theorem bindJob_inner (h : Inner s t) (j : Job) : Inner s (bindJob j t) := by
  unfold bindJob
  repeat
    first
    | exact h
    | with_reducible
      first
      | apply Inner.post
      | apply Inner.onQueue
      | apply updJob_inner
      | apply bindingCheck_inner

theorem leaveQueue_inner (h : Inner s t) (j : Job) : Inner s (leaveQueue j t) := by
  unfold leaveQueue
  dsimp only
  repeat' split
  all_goals repeat
    first
    | exact h
    | with_reducible
      first
      | apply Inner.post
      | apply Inner.onQueue
      | apply closeRecord_inner
      | apply withdrawQueueWant_inner

theorem passEndQueue_inner (h : Inner s t) (n : Nat) (o : PassOutcome) : Inner s (passEndQueue n o t) := by
  unfold passEndQueue
  dsimp only
  repeat' split
  all_goals repeat
    first
    | exact h
    | with_reducible
      first
      | apply updJob_inner
      | apply leaveQueue_inner
      | apply withdrawQueueWant_inner

/-! ### The Sender -/

theorem setCirc_inner (h : Inner s t) (c : CircuitState) (x : Tone) : Inner s (setCirc c x t) := by
  unfold setCirc
  repeat (first | exact h | with_reducible first | apply Inner.onSender)

theorem closePass_inner (h : Inner s t) : Inner s (closePass t) := by
  unfold closePass
  dsimp only
  repeat' split
  all_goals repeat
    first
    | exact h
    | with_reducible
      first
      | apply Inner.post
      | apply Inner.onScan
      | apply Inner.onSender
      | apply passEndQueue_inner
      | apply setCirc_inner
      | apply completePass_inner
      | apply stopRounds_inner
      | apply scanEnd_inner

theorem decidePass_inner (h : Inner s t) (o : PassOutcome) (r : Option Reason) : Inner s (decidePass o r t) := by
  unfold decidePass
  repeat (first | exact h | with_reducible first | apply onPass_inner)

theorem enterKilling_inner (h : Inner s t) : Inner s (enterKilling t) := by
  unfold enterKilling
  repeat (first | exact h | with_reducible first | apply Inner.onSender | apply scanEnd_inner)

theorem terminate_inner (h : Inner s t) (o : PassOutcome) (r : Option Reason) (b : Bool) : Inner s (terminate o r b t) := by
  unfold terminate
  repeat' split
  all_goals repeat
    first
    | exact h
    | with_reducible
      first
      | apply enterKilling_inner
      | apply decidePass_inner
      | apply closePass_inner

theorem secondFault_inner (h : Inner s t) (r : Reason) : Inner s (secondFault r t) := by
  unfold secondFault
  repeat (first | exact h | with_reducible first | apply onPass_inner)

theorem failPass_inner (h : Inner s t) (r : Reason) : Inner s (failPass r t) := by
  unfold failPass
  repeat' split
  all_goals repeat
    first
    | exact h
    | with_reducible
      first
      | apply terminate_inner
      | apply secondFault_inner

theorem enterCallup_inner (h : Inner s t) : Inner s (enterCallup t) := by
  unfold enterCallup
  dsimp only
  repeat' split
  all_goals repeat
    first
    | exact h
    | with_reducible
      first
      | apply Inner.onSender
      | apply onPass_inner
      | apply failPass_inner
      | apply setCirc_inner
      | apply passToDrive_inner
      | apply startRounds_inner

theorem enterEnding_inner (h : Inner s t) : Inner s (enterEnding t) := by
  unfold enterEnding
  repeat' split
  all_goals repeat
    first
    | exact h
    | with_reducible
      first
      | apply Inner.onSender
      | apply scanEnd_inner

theorem postPause_inner (h : Inner s t) : Inner s (postPause t) := by
  unfold postPause
  repeat' split
  all_goals repeat (first | exact h | with_reducible first | apply Inner.post)

theorem takePause_inner (h : Inner s t) (p : ResumePoint) : Inner s (takePause p t) := by
  unfold takePause
  dsimp only
  repeat' split
  all_goals repeat
    first
    | exact h
    | with_reducible
      first
      | apply onPass_inner
      | apply postPause_inner
      | apply setCirc_inner

theorem pauseChanged_inner (h : Inner s t) : Inner s (pauseChanged t) := by
  unfold pauseChanged
  repeat' split
  all_goals repeat
    first
    | exact h
    | with_reducible
      first
      | apply Inner.onSender
      | apply postPause_inner

theorem reasonEntered_inner (h : Inner s t) : Inner s (reasonEntered t) := by
  unfold reasonEntered
  repeat' split
  all_goals repeat
    first
    | exact h
    | with_reducible
      first
      | apply onPass_inner
      | apply pauseChanged_inner
      | apply takePause_inner

theorem addHold_inner (h : Inner s t) : Inner s (addHold t) := by
  unfold addHold
  repeat (first | exact h | with_reducible first | apply onPass_inner | apply reasonEntered_inner)

theorem addBreak_inner (h : Inner s t) : Inner s (addBreak t) := by
  unfold addBreak
  repeat (first | exact h | with_reducible first | apply onPass_inner | apply reasonEntered_inner)

theorem resumeAt_inner (h : Inner s t) (p : ResumePoint) : Inner s (resumeAt p t) := by
  unfold resumeAt
  dsimp only
  repeat' split
  all_goals repeat
    first
    | exact h
    | with_reducible
      first
      | apply Inner.post
      | apply onPass_inner
      | apply setCirc_inner
      | apply enterCallup_inner
      | apply enterEnding_inner

theorem reasonLeft_inner (h : Inner s t) : Inner s (reasonLeft t) := by
  unfold reasonLeft
  repeat' split
  all_goals repeat
    first
    | exact h
    | with_reducible
      first
      | apply Inner.onSender
      | apply onPass_inner
      | apply pauseChanged_inner
      | apply resumeAt_inner

theorem removeHold_inner (h : Inner s t) : Inner s (removeHold t) := by
  unfold removeHold
  repeat (first | exact h | with_reducible first | apply onPass_inner | apply reasonLeft_inner)

theorem removeBreak_inner (h : Inner s t) : Inner s (removeBreak t) := by
  unfold removeBreak
  repeat (first | exact h | with_reducible first | apply onPass_inner | apply reasonLeft_inner)

theorem senderBreakOn_inner (h : Inner s t) : Inner s (senderBreakOn t) := by
  unfold senderBreakOn
  repeat' split
  all_goals repeat
    first
    | exact h
    | with_reducible
      first
      | apply setCirc_inner
      | apply closePass_inner
      | apply addBreak_inner

theorem senderBreakOff_inner (h : Inner s t) : Inner s (senderBreakOff t) := by
  unfold senderBreakOff
  repeat' split
  all_goals repeat
    first
    | exact h
    | with_reducible
      first
      | apply setCirc_inner
      | apply removeBreak_inner

theorem updParty_inner (h : Inner s t) (n : Nat) (f : Party → Party) : Inner s (updParty n f t) := by
  unfold updParty
  all_goals repeat (first | exact h | with_reducible first | apply onPass_inner)

theorem dropStation_inner (h : Inner s t) (w : DropReason) (n : Nat) : Inner s (dropStation w n t) := by
  unfold dropStation
  repeat' split
  all_goals repeat
    first
    | exact h
    | with_reducible
      first
      | apply Inner.post
      | apply updParty_inner

theorem noPartyTest_inner (h : Inner s t) : Inner s (noPartyTest t) := by
  unfold noPartyTest
  repeat' split
  all_goals repeat (first | exact h | with_reducible first | apply failPass_inner)

theorem lateReady_inner (h : Inner s t) (e : Party) : Inner s (lateReady e t) := by
  unfold lateReady
  repeat' split
  all_goals repeat
    first
    | exact h
    | with_reducible
      first
      | apply Inner.post
      | apply updParty_inner

theorem clearSilence_inner (h : Inner s t) (n : Nat) : Inner s (clearSilence n t) := by
  unfold clearSilence
  repeat (first | exact h | with_reducible first | apply updStation_inner)

theorem joinedReply_inner (h : Inner s t) (k : ReplyKind) (n : Nat) : Inner s (joinedReply k n t) := by
  unfold joinedReply
  repeat' split
  all_goals repeat
    first
    | exact h
    | with_reducible
      first
      | apply updStation_inner
      | apply dropStation_inner
      | apply clearSilence_inner

theorem joinStation_inner (h : Inner s t) (n r : Nat) : Inner s (joinStation n r t) := by
  unfold joinStation
  repeat' split
  all_goals repeat
    first
    | exact h
    | with_reducible
      first
      | apply Inner.post
      | apply onPass_inner
      | apply updParty_inner
      | apply clearSilence_inner

theorem joinedReplyTested_inner (h : Inner s t) (k : ReplyKind) (n : Nat) : Inner s (joinedReplyTested k n t) := by
  unfold joinedReplyTested
  repeat' split
  all_goals repeat
    first
    | exact h
    | with_reducible
      first
      | apply noPartyTest_inner
      | apply joinedReply_inner

theorem gatheringReply_inner (h : Inner s t) (k : ReplyKind) (n : Nat) : Inner s (gatheringReply k n t) := by
  unfold gatheringReply
  repeat' split
  all_goals repeat (first | exact h | with_reducible first | apply updParty_inner)

theorem partyReply_inner (h : Inner s t) (k : ReplyKind) (e : Party) (r : Nat) (p : Pass) : Inner s (partyReply k e r p t) := by
  unfold partyReply
  repeat' split
  all_goals repeat
    first
    | exact h
    | with_reducible
      first
      | apply lateReady_inner
      | apply joinedReply_inner
      | apply joinedReplyTested_inner
      | apply gatheringReply_inner
      | apply joinStation_inner

theorem senderSlot_inner (h : Inner s t) (n r : Nat) (x : SlotResult) : Inner s (senderSlot n r x t) := by
  unfold senderSlot
  dsimp only
  repeat' split
  all_goals repeat
    first
    | exact h
    | with_reducible
      first
      | apply updParty_inner
      | apply partyReply_inner

theorem maskStation_inner (h : Inner s t) (n : Nat) : Inner s (maskStation t n) := by
  unfold maskStation
  repeat' split
  all_goals repeat
    first
    | exact h
    | with_reducible
      first
      | apply dropStation_inner
      | apply updParty_inner

theorem foldl_inner {f : State → Nat → State} (hf : ∀ n t, Inner s t → Inner s (f t n)) (ns : List Nat)
    (h : Inner s t) : Inner s (ns.foldl f t) := by
  induction ns generalizing t with
  | nil => exact h
  | cons n ns ih => exact ih (hf n t h)

theorem maskChanges_inner (h : Inner s t) (ns : List Nat) : Inner s (maskChanges ns t) := by
  unfold maskChanges
  repeat' split
  all_goals first | exact h | exact foldl_inner (fun n _ k => maskStation_inner k n) ns h

theorem watchStation_inner (h : Inner s t) (n : Nat) : Inner s (watchStation t n) := by
  unfold watchStation
  dsimp only
  repeat' split
  all_goals repeat
    first
    | exact h
    | with_reducible
      first
      | apply updStation_inner
      | apply dropStation_inner

theorem silenceWatch_inner (h : Inner s t) : Inner s (silenceWatch t) := by
  unfold silenceWatch
  split
  · exact h
  · exact foldl_inner (fun n _ k => watchStation_inner k n) _ h

theorem clearResults_inner (h : Inner s t) : Inner s (clearResults t) := by
  unfold clearResults
  repeat (first | exact h | with_reducible first | apply onPass_inner)

theorem openWindow_inner (h : Inner s t) (r : Nat) : Inner s (openWindow r t) := by
  unfold openWindow
  repeat (first | exact h | with_reducible first | apply Inner.onSender)

theorem closeWindow_inner (h : Inner s t) : Inner s (closeWindow t) := by
  unfold closeWindow
  dsimp only
  repeat' split
  all_goals repeat
    first
    | exact h
    | with_reducible
      first
      | apply onPass_inner
      | apply failPass_inner

theorem gatherRound_inner (h : Inner s t) : Inner s (gatherRound t) := by
  unfold gatherRound
  dsimp only
  repeat' split
  all_goals repeat
    first
    | exact h
    | with_reducible
      first
      | apply onPass_inner
      | apply closePass_inner

theorem roundEndTest_inner (h : Inner s t) (p : Pass) : Inner s (roundEndTest p t) := by
  unfold roundEndTest
  repeat' split
  all_goals repeat (first | exact h | with_reducible first | apply noPartyTest_inner)

theorem senderRoundEnd_inner (h : Inner s t) (r : Nat) (ns : List Nat) (b : Bool) : Inner s (senderRoundEnd r ns b t) := by
  unfold senderRoundEnd
  dsimp only
  repeat' split
  all_goals repeat
    first
    | exact h
    | with_reducible
      first
      | apply maskChanges_inner
      | apply clearResults_inner
      | apply openWindow_inner
      | apply closeWindow_inner
      | apply roundEndTest_inner
      | apply silenceWatch_inner
      | apply gatherRound_inner

theorem postProgress_inner (h : Inner s t) (l : SentLine) (p : Pass) : Inner s (postProgress l p t) := by
  unfold postProgress
  repeat' split
  all_goals repeat (first | exact h | with_reducible first | apply Inner.post)

theorem completeLine_inner (h : Inner s t) (l : SentLine) (p : Pass) : Inner s (completeLine l p t).1 := by
  unfold completeLine
  dsimp only
  repeat' split
  all_goals repeat
    first
    | exact h
    | with_reducible
      first
      | apply onPass_inner
      | apply postProgress_inner
      | apply failPass_inner
      | apply enterEnding_inner
      | apply takePause_inner

theorem phasingMark_inner (h : Inner s t) (good : Bool) (p : Pass) : Inner s (phasingMark good p t).1 := by
  unfold phasingMark
  dsimp only
  repeat' split
  all_goals repeat
    first
    | exact h
    | with_reducible
      first
      | apply Inner.onSender
      | apply onPass_inner
      | apply takePause_inner

theorem senderIndex_inner (h : Inner s t) (good : Bool) : Inner s (senderIndex good t).1 := by
  unfold senderIndex
  repeat' split
  all_goals repeat
    first
    | exact h
    | with_reducible
      first
      | apply onPass_inner
      | apply setCirc_inner
      | apply phasingMark_inner
      | apply completeLine_inner
      | apply resumeAt_inner

theorem takeRecord_inner (h : Inner s t) (m : Nat) : Inner s (takeRecord m t).2 := by
  unfold takeRecord
  repeat' split
  all_goals dsimp only
  all_goals first | exact h | exact h.onScan _

theorem takeLine_inner (h : Inner s t) (p : Pass) : Inner s (takeLine p t) := by
  have k := takeRecord_inner h (p.sent + 1)
  unfold takeLine
  exact onPass_inner k _

theorem senderSample_inner (h : Inner s t) (n : Nat) : Inner s (senderSample n t) := by
  unfold senderSample
  dsimp only
  repeat' split
  all_goals repeat
    first
    | exact h
    | with_reducible
      first
      | apply Inner.onSender
      | apply takeLine_inner

/-! ### The start of a job and the end of a step -/

theorem startJob_inner (h : Inner s t) (j : Job) : Inner s (startJob j t) := by
  unfold startJob
  dsimp only
  repeat
    first
    | exact h
    | with_reducible
      first
      | apply Inner.post
      | apply Inner.onQueue
      | apply Inner.onSender
      | apply updJob_inner
      | apply enterCallup_inner
      | apply scanBegin_inner
      | apply recordStart_inner

theorem autoCalibrate_inner (h : Inner s t) (j : Job) : Inner s (autoCalibrate j t) := by
  unfold autoCalibrate
  repeat' split
  all_goals repeat
    first
    | exact h
    | with_reducible
      first
      | apply updJob_inner
      | apply askCalibration_inner

theorem startTest_inner (h : Inner s t) (j : Job) : Inner s (startTest j t) := by
  unfold startTest
  dsimp only
  repeat' split
  all_goals repeat
    first
    | exact h
    | with_reducible
      first
      | apply Inner.post
      | apply Inner.onQueue
      | apply startJob_inner

theorem settle_inner (h : Inner s t) : Inner s (settle t) := by
  unfold settle
  repeat' split
  all_goals repeat
    first
    | exact h
    | with_reducible
      first
      | apply startTest_inner
      | apply autoCalibrate_inner

theorem conclude_inner (h : Inner s t) : Inner s (conclude t) := by
  unfold conclude
  repeat (first | exact h | with_reducible first | apply kick_inner | apply settle_inner)

/-! ### Events of the drive -/

theorem clearFaultHold_inner (h : Inner s t) : Inner s (clearFaultHold t) := by
  unfold clearFaultHold
  repeat' split
  all_goals repeat
    first
    | exact h
    | with_reducible
      first
      | apply Inner.onDrive
      | apply serve_inner

theorem driveFault_inner (h : Inner s t) (k : DrumFault) : Inner s (driveFault k t) := by
  unfold driveFault
  repeat
    first
    | exact h
    | with_reducible
      first
      | apply Inner.post
      | apply Inner.onDrive
      | apply clearFaultHold_inner
      | apply failPass_inner
      | apply calDriveFault_inner
      | apply motorOff_inner

theorem carriageFault_inner (h : Inner s t) : Inner s (carriageFault t) := by
  unfold carriageFault
  dsimp only
  repeat' split
  all_goals repeat
    first
    | exact h
    | with_reducible
      first
      | apply Inner.post
      | apply Inner.onDrive
      | apply failPass_inner

theorem stepFault_inner (h : Inner s t) : Inner s (stepFault t) := by
  unfold stepFault
  dsimp only
  repeat' split
  all_goals repeat
    first
    | exact h
    | with_reducible
      first
      | apply Inner.onDrive
      | apply spoilLine_inner
      | apply carriageFault_inner

theorem measureApproach_inner (h : Inner s t) (v : Speed) (n : Nat) : Inner s (measureApproach v n t) := by
  unfold measureApproach
  repeat' split
  all_goals repeat (first | exact h | with_reducible first | apply Inner.post | apply Inner.onDrive)

theorem approachMark_inner (h : Inner s t) (n : Nat) : Inner s (approachMark n t) := by
  unfold approachMark
  repeat' split
  all_goals repeat
    first
    | exact h
    | with_reducible
      first
      | apply Inner.onDrive
      | apply serveDrum_inner
      | apply measureApproach_inner

theorem handIndex_inner (h : Inner s t) (locked good : Bool) : Inner s (handIndex locked good t) := by
  unfold handIndex
  dsimp only
  repeat
    first
    | exact h
    | with_reducible
      first
      | apply Inner.onScan
      | apply calIndex_inner
      | apply beginLine_inner
      | apply senderIndex_inner

theorem lockedMark_inner (h : Inner s t) (n : Nat) : Inner s (lockedMark n t) := by
  unfold lockedMark
  dsimp only
  repeat' split
  all_goals repeat
    first
    | exact h
    | with_reducible
      first
      | apply Inner.onDrive
      | apply driveFault_inner
      | apply handIndex_inner

theorem indexMark_inner (h : Inner s t) (n : Nat) : Inner s (indexMark n t) := by
  unfold indexMark
  dsimp only
  repeat' split
  all_goals repeat
    first
    | exact h
    | with_reducible
      first
      | apply Inner.onDrive
      | apply approachMark_inner
      | apply handIndex_inner
      | apply lockedMark_inner

theorem driveSample_inner (h : Inner s t) (n : Nat) : Inner s (driveSample n t) := by
  unfold driveSample
  dsimp only
  repeat' split
  all_goals repeat
    first
    | exact h
    | with_reducible
      first
      | apply Inner.onDrive
      | apply stepFault_inner

theorem scanPosition_inner (h : Inner s t) (n x : Nat) : Inner s (scanPosition n x t) := by
  unfold scanPosition
  dsimp only
  repeat' split
  all_goals repeat
    first
    | exact h
    | with_reducible
      first
      | apply Inner.onScan
      | apply failPass_inner

theorem samplePosition_inner (h : Inner s t) (n x : Nat) : Inner s (samplePosition n x t) := by
  unfold samplePosition
  repeat' split
  all_goals repeat
    first
    | exact h
    | with_reducible
      first
      | apply senderSample_inner
      | apply calSample_inner
      | apply scanPosition_inner
      | apply driveSample_inner

theorem lockTimeout_inner (h : Inner s t) : Inner s (lockTimeout t) := by
  unfold lockTimeout
  repeat' split
  all_goals repeat
    first
    | exact h
    | with_reducible
      first
      | apply Inner.advance
      | apply driveFault_inner

theorem tachometerSilence_inner (h : Inner s t) : Inner s (tachometerSilence t) := by
  unfold tachometerSilence
  repeat' split
  all_goals repeat (first | exact h | with_reducible first | apply Inner.post | apply Inner.onDrive)

theorem spinUpEntryExpiry_inner (h : Inner s t) : Inner s (spinUpEntryExpiry t) := by
  unfold spinUpEntryExpiry
  dsimp only
  repeat' split
  all_goals repeat
    first
    | exact h
    | with_reducible
      first
      | apply Inner.advance
      | apply Inner.onDrive
      | apply serveDrum_inner

theorem idleHoldExpiry_inner (h : Inner s t) : Inner s (idleHoldExpiry t) := by
  unfold idleHoldExpiry
  repeat' split
  all_goals repeat
    first
    | exact h
    | with_reducible
      first
      | apply Inner.advance
      | apply idleExpire_inner

theorem homeSwitch_inner (h : Inner s t) : Inner s (homeSwitch t) := by
  unfold homeSwitch
  repeat' split
  all_goals repeat (first | exact h | with_reducible first | apply Inner.onDrive)

theorem returnTimeout_inner (h : Inner s t) : Inner s (returnTimeout t) := by
  unfold returnTimeout
  repeat' split
  all_goals repeat
    first
    | exact h
    | with_reducible
      first
      | apply Inner.advance
      | apply Inner.onDrive
      | apply carriageFault_inner

theorem stepSense_inner (h : Inner s t) : Inner s (stepSense t) := by
  unfold stepSense
  repeat (first | exact h | with_reducible first | apply Inner.onDrive)

theorem endSwitch_inner (h : Inner s t) : Inner s (endSwitch t) := by
  unfold endSwitch
  repeat (first | exact h | with_reducible first | apply Inner.onDrive | apply carriageFault_inner)

theorem warmUpExpiry_inner (h : Inner s t) : Inner s (warmUpExpiry t) := by
  unfold warmUpExpiry
  repeat' split
  all_goals repeat
    first
    | exact h
    | with_reducible
      first
      | apply Inner.post
      | apply Inner.advance
      | apply Inner.onDrive

theorem lampCurrentFault_inner (h : Inner s t) : Inner s (lampCurrentFault t) := by
  unfold lampCurrentFault
  repeat' split
  all_goals repeat
    first
    | exact h
    | with_reducible
      first
      | apply Inner.post
      | apply Inner.onDrive
      | apply abortRun_inner
      | apply failPass_inner

theorem temperatureReading_inner (h : Inner s t) (d : Int) : Inner s (temperatureReading d t) := by
  unfold temperatureReading
  dsimp only
  repeat
    first
    | exact h
    | with_reducible
      first
      | apply Inner.advance
      | apply Inner.onDrive
      | apply calTemperature_inner

/-! ### Events of circuit, Sender, printer and panel -/

theorem onRounds_inner (h : Inner s t) (f : Rounds → Rounds) : Inner s (onRounds f t) := by
  unfold onRounds
  repeat (first | exact h | with_reducible first | apply Inner.onCircuit)

theorem countGarble_inner (h : Inner s t) (k : SlotKind) : Inner s (countGarble k t) := by
  unfold countGarble
  repeat' split
  all_goals repeat (first | exact h | with_reducible first | apply Inner.onCircuit)

theorem roundEnd_inner (h : Inner s t) (r : Rounds) : Inner s (roundEnd r t) := by
  unfold roundEnd
  repeat' split
  all_goals repeat
    first
    | exact h
    | with_reducible
      first
      | apply senderRoundEnd_inner
      | apply applyMask_inner

theorem slotEnd_inner (h : Inner s t) : Inner s (slotEnd t) := by
  unfold slotEnd
  dsimp only
  repeat' split
  all_goals repeat
    first
    | exact h
    | with_reducible
      first
      | apply Inner.advance
      | apply onRounds_inner
      | apply roundEnd_inner
      | apply senderSlot_inner
      | apply countGarble_inner

theorem toneOn_inner (h : Inner s t) : Inner s (toneOn t) := by
  unfold toneOn
  all_goals repeat (first | exact h | with_reducible first | apply Inner.onCircuit)

theorem toneOff_inner (h : Inner s t) : Inner s (toneOff t) := by
  unfold toneOff
  all_goals repeat (first | exact h | with_reducible first | apply Inner.onCircuit)

theorem markBreak_inner (h : Inner s t) : Inner s (markBreak t) := by
  unfold markBreak
  repeat (first | exact h | with_reducible first | apply onRounds_inner)

theorem armingExpiry_inner (h : Inner s t) : Inner s (armingExpiry t) := by
  unfold armingExpiry
  repeat' split
  all_goals repeat
    first
    | exact h
    | with_reducible
      first
      | apply Inner.post
      | apply Inner.advance
      | apply Inner.onCircuit
      | apply senderBreakOn_inner
      | apply markBreak_inner

theorem endingExpiry_inner (h : Inner s t) : Inner s (endingExpiry t) := by
  unfold endingExpiry
  repeat' split
  all_goals repeat
    first
    | exact h
    | with_reducible
      first
      | apply Inner.post
      | apply Inner.advance
      | apply Inner.onCircuit
      | apply senderBreakOff_inner

theorem callupSignalEnd_inner (h : Inner s t) : Inner s (callupSignalEnd t) := by
  unfold callupSignalEnd
  repeat' split
  all_goals repeat
    first
    | exact h
    | with_reducible
      first
      | apply Inner.advance
      | apply Inner.onSender

theorem endSignalEnd_inner (h : Inner s t) : Inner s (endSignalEnd t) := by
  unfold endSignalEnd
  repeat' split
  all_goals repeat
    first
    | exact h
    | with_reducible
      first
      | apply Inner.advance
      | apply onPass_inner
      | apply setCirc_inner

theorem killSignalEnd_inner (h : Inner s t) : Inner s (killSignalEnd t) := by
  unfold killSignalEnd
  repeat' split
  all_goals repeat
    first
    | exact h
    | with_reducible
      first
      | apply Inner.advance
      | apply closePass_inner

theorem holdDeadline_inner (h : Inner s t) : Inner s (holdDeadline t) := by
  unfold holdDeadline
  repeat' split
  all_goals repeat
    first
    | exact h
    | with_reducible
      first
      | apply Inner.advance
      | apply failPass_inner

theorem breakDeadline_inner (h : Inner s t) : Inner s (breakDeadline t) := by
  unfold breakDeadline
  repeat' split
  all_goals repeat
    first
    | exact h
    | with_reducible
      first
      | apply Inner.advance
      | apply failPass_inner

theorem paperOut_inner (h : Inner s t) : Inner s (paperOut t) := by
  unfold paperOut
  dsimp only
  repeat' split
  all_goals repeat
    first
    | exact h
    | with_reducible
      first
      | apply Inner.post
      | apply Inner.onReceipts
      | apply cutSlip_inner

theorem paperIn_inner (h : Inner s t) : Inner s (paperIn t) := by
  unfold paperIn
  repeat' split
  all_goals repeat
    first
    | exact h
    | with_reducible
      first
      | apply Inner.post
      | apply Inner.onReceipts
      | apply kick_inner

theorem bindHead_inner (h : Inner s t) : Inner s (bindHead t) := by
  unfold bindHead
  repeat' split
  all_goals repeat
    first
    | exact h
    | with_reducible
      first
      | apply Inner.post
      | apply Inner.onQueue
      | apply bindJob_inner

theorem coverClose_inner (h : Inner s t) : Inner s (coverClose t) := by
  unfold coverClose
  repeat' split
  all_goals repeat
    first
    | exact h
    | with_reducible
      first
      | apply serve_inner
      | apply bindHead_inner

theorem coverOnActive_inner (h : Inner s t) (j : Job) : Inner s (coverOnActive j t) := by
  unfold coverOnActive
  repeat
    first
    | exact h
    | with_reducible
      first
      | apply onPass_inner
      | apply failPass_inner
      | apply scanEnd_inner
      | apply leaveQueue_inner

theorem unbind_inner (h : Inner s t) (j : Job) : Inner s (unbind j t) := by
  unfold unbind
  repeat' split
  all_goals repeat
    first
    | exact h
    | with_reducible
      first
      | apply Inner.onQueue
      | apply updJob_inner
      | apply withdrawQueueWant_inner
      | apply coverOnActive_inner
      | apply leaveQueue_inner

theorem driveCoverOpen_inner (h : Inner s t) : Inner s (driveCoverOpen t) := by
  unfold driveCoverOpen
  repeat
    first
    | exact h
    | with_reducible
      first
      | apply Inner.onDrive
      | apply lampOff_inner
      | apply abortRun_inner
      | apply motorOff_inner

theorem coverOpens_inner (h : Inner s t) : Inner s (coverOpens t) := by
  unfold coverOpens
  dsimp only
  repeat' split
  all_goals repeat
    first
    | exact h
    | with_reducible
      first
      | apply Inner.post
      | apply Inner.onQueue
      | apply driveCoverOpen_inner
      | apply unbind_inner

end Sys2Proof.Machine
end

