-- ==== Sys2Proof/Laws/Ops.lean ====
section
/-! SUPPORT. What the shared operations at the end of a step do: the transmitter, the queue's tests and the
printer at rest, a request line that is taken at once; and that `RESET` and the requests keep the link's
line in transmission, its waiting reply and its held line as they are. -/

namespace Sys2Proof.Machine

variable {s t : State}

/-! ### The end of a step -/

theorem live_on (f : State → State) (h : s.powered = true) : live f s = .next (f s) := by
  simp [live, h]

theorem live_off (f : State → State) (h : s.powered = false) : live f s = .next s := by
  simp [live, h]

theorem pumpLink_eq (l : Link) : pumpLink l = l.pumped := by
  unfold pumpLink Link.pumped
  cases h1 : l.sending with
  | some o => simp
  | none =>
    cases h2 : l.waiting with
    | some r => simp
    | none =>
      cases h3 : l.paused
      · cases h4 : l.reports with
        | nil => cases l; simp_all
        | cons r rest => simp
      · simp

theorem pump_eq (s : State) : pump s = { s with link := s.link.pumped } := by
  simp [pump, State.onLink, pumpLink_eq]

theorem settle_none (h : s.releasedJob = none) : settle s = s := by simp [settle, h]

theorem settle_some {j : Job} (h : s.releasedJob = some j) : settle s = startTest j (autoCalibrate j s) := by
  simp [settle, h]

/-- The first job with a property after every job of a number was given it, no job having had it. -/
theorem find_updated {p : Job → Bool} {g : Job → Job} (n : Nat) (hg : ∀ k, p (g k) = true) (jobs : List Job)
    (h : ∀ k ∈ jobs, p k = false) :
    (jobs.map fun k => if k.number = n then g k else k).find? p =
      (jobs.find? fun k => k.number == n).map g := by
  induction jobs with
  | nil => rfl
  | cons k ks ih =>
    have hk := h k (by simp)
    have hks := ih fun x hx => h x (by simp [hx])
    by_cases e : k.number = n
    · simp [e, hg]
    · simp [e, hk, hks]

/-- With no job RELEASED, the job of a number becomes the RELEASED one as its record is. -/
theorem releasedJob_updJob {g : Job → Job} {j : Job} (n : Nat) (hg : ∀ k, (g k).state = .released)
    (h : s.releasedJob = none) (hf : s.findJob n = some j) : (updJob n g s).releasedJob = some (g j) := by
  have hn : ∀ k ∈ s.queue.jobs, (k.state == .released) = false := by
    simpa [State.releasedJob] using h
  simp only [State.releasedJob, updJob, State.onQueue_queue]
  rw [find_updated n (fun k => by simp [hg]) _ hn]
  simp only [State.findJob] at hf
  rw [hf]
  rfl

/-! ### The drive with its wants met -/

theorem lampOn_kept (h : s.drive.lamp ≠ .off) : lampOn s = s := by simp [lampOn, h]

/-- In an approach, and LOCKED at the wanted speed, a want changes nothing at the drum (R35). -/
theorem serveDrum_kept
    (h : s.drive.drum.approaching = true ∨ (s.drive.drum = .locked ∧ s.drive.lockedAt = s.drive.wanted)) :
    serveDrum s = s := by
  unfold serveDrum
  split
  · rfl
  · split
    · rfl
    · rename_i w hw
      rcases h with h | ⟨h, h'⟩
      · split <;> simp_all [DrumState.approaching]
      · simp [h, h', hw]

theorem serve_kept (hl : s.drive.lamp ≠ .off)
    (h : s.drive.drum.approaching = true ∨ (s.drive.drum = .locked ∧ s.drive.lockedAt = s.drive.wanted)) :
    serve s = s := by rw [serve, lampOn_kept hl, serveDrum_kept h]

theorem recordAvailable_iff (j : Job) :
    s.recordAvailable j = true ↔
      1 < j.passNo ∨ s.receipts.log.length < 16 ∨ ∃ r ∈ s.receipts.log, r.reclaimable = true := by
  have : Config.logCap = 16 := rfl
  simp only [State.recordAvailable, this, Bool.or_eq_true, decide_eq_true_eq, List.any_eq_true, or_assoc]

/-! ### The printer at rest -/

theorem kick_none (h : s.receipts.printer = .ready → s.receipts.slips = []) : kick s = s := by
  unfold kick
  split
  · rename_i e _ h1 h2
    rw [h h1] at h2
    cases h2
  · rfl

theorem conclude_resting (h : s.resting) : conclude s = s := by
  rw [conclude, settle_none h.1, kick_none h.2]

theorem finish_resting (h : s.resting) : finish s = { s with link := s.link.pumped } := by
  rw [finish, conclude_resting h, pump_eq]

theorem post_eq (r : Report) (s : State) : post r s = { s with link := s.link.posted [r] } := by
  rw [← post_link]
  simp only [post, State.onLink]

/-! ### The transmitter's fields -/

@[simp] theorem posted_sending (l : Link) (rs : List Report) : (l.posted rs).sending = l.sending := rfl
@[simp] theorem posted_waiting (l : Link) (rs : List Report) : (l.posted rs).waiting = l.waiting := rfl
@[simp] theorem posted_held (l : Link) (rs : List Report) : (l.posted rs).held = l.held := rfl
@[simp] theorem posted_paused (l : Link) (rs : List Report) : (l.posted rs).paused = l.paused := rfl
@[simp] theorem posted_buffer (l : Link) (rs : List Report) : (l.posted rs).buffer = l.buffer := rfl
@[simp] theorem posted_long (l : Link) (rs : List Report) : (l.posted rs).long = l.long := rfl
@[simp] theorem posted_lineTimer (l : Link) (rs : List Report) :
    (l.posted rs).lineTimer = l.lineTimer := rfl
@[simp] theorem posted_overrun (l : Link) (rs : List Report) : (l.posted rs).overrun = l.overrun := rfl
@[simp] theorem posted_baud (l : Link) (rs : List Report) : (l.posted rs).baud = l.baud := rfl

@[simp] theorem emptyBuffer_sending (l : Link) : (emptyBuffer l).sending = l.sending := rfl
@[simp] theorem emptyBuffer_waiting (l : Link) : (emptyBuffer l).waiting = l.waiting := rfl
@[simp] theorem emptyBuffer_held (l : Link) : (emptyBuffer l).held = l.held := rfl
@[simp] theorem emptyBuffer_reports (l : Link) : (emptyBuffer l).reports = l.reports := rfl
@[simp] theorem emptyBuffer_overflow (l : Link) : (emptyBuffer l).overflow = l.overflow := rfl
@[simp] theorem emptyBuffer_paused (l : Link) : (emptyBuffer l).paused = l.paused := rfl

theorem emptyBuffer_posted (l : Link) (rs : List Report) :
    emptyBuffer (l.posted rs) = (emptyBuffer l).posted rs := rfl

theorem posted_answered (l : Link) (rs : List Report) (r : Reply) :
    ((emptyBuffer l).posted rs).answered r = (l.posted rs).answered r := rfl

/-! ### A request line -/

theorem exec_request (r : Request) (s : State) : exec r.toInstr s = live (deliver r) s := by
  cases r <;> rfl

/-- A reply waits and the transmitter goes on. -/
theorem pump_waiting (r : Reply) :
    pump (t.onLink fun l => { l with waiting := some r }) =
      { t with
        link :=
          { t.link with
            sending := some (t.link.sending.getD (.reply r))
            waiting := if t.link.sending.isNone then none else some r } } := by
  rw [pump_eq]
  cases hs : t.link.sending <;> simp [State.onLink, Link.pumped, hs]

/-- A line that is taken at once: its owner takes it with the input buffer empty, and its reply is
produced. -/
theorem deliver_takes (r : Request) (h : s.takes) :
    deliver r s = pump (takeRequest r (s.onLink emptyBuffer)) := by
  obtain ⟨_, h2, h3⟩ := h
  simp [deliver, completed, h2, h3]

/-- The step of a request line taken at once, from what its owner does with it: the owner's changes to
`s` give `t`, whatever either holds in the input buffer. -/
theorem exec_takes (r : Request) (h : s.takes) (t : State) (w : Reply)
    (ho : ownerTakes r (s.onLink emptyBuffer) = (t.onLink emptyBuffer, w)) :
    exec r.toInstr s = .next (t.answered w) := by
  rw [exec_request, live_on _ h.1, deliver_takes r h, takeRequest, ho]
  dsimp only
  rw [pump_waiting w]
  rfl

end Sys2Proof.Machine
end

