-- ==== Sys2Proof/Laws/Requests.lean ====
section
/-! SUPPORT. What a request leaves alone whatever it is: `Kept s t` says that `t` keeps the power, the waiting
commands and the transmitter's side of the link of `s`; one lemma per request, and from them the same for
every command. A refused request leaves everything. -/

namespace Sys2Proof.Machine

variable {s t u : State}

/-! ### The passage -/

/-- From `s` to `t` neither the power, the waiting commands, the line in transmission, the waiting reply,
the held line nor the baud rate changed. -/
structure Kept (s t : State) : Prop where
  powered : t.powered = s.powered
  pending : t.pending = s.pending
  sending : t.link.sending = s.link.sending
  waiting : t.link.waiting = s.link.waiting
  held : t.link.held = s.link.held
  overrun : t.link.overrun = s.link.overrun
  baud : t.link.baud = s.link.baud

theorem Kept.refl (s : State) : Kept s s := ⟨rfl, rfl, rfl, rfl, rfl, rfl, rfl⟩

theorem Kept.trans (h : Kept s t) (k : Kept t u) : Kept s u :=
  ⟨k.powered.trans h.powered, k.pending.trans h.pending, k.sending.trans h.sending,
    k.waiting.trans h.waiting, k.held.trans h.held, k.overrun.trans h.overrun, k.baud.trans h.baud⟩

theorem Inner.kept (h : Inner s t) : Kept s t := by
  obtain ⟨_, hl⟩ := h.link
  exact ⟨h.powered, h.pending, by rw [hl]; rfl, by rw [hl]; rfl, by rw [hl]; rfl, by rw [hl]; rfl,
    by rw [hl]; rfl⟩

/-! ### Each request -/

theorem hold_inner {j : Job} {b : Bool} (h : holdJob j s = .ok (b, t)) : Inner s t := by
  unfold holdJob at h
  split at h
  · split at h
    · cases h
    · split at h
      · cases h
      · cases h
        exact addHold_inner (Inner.refl s)
  · cases h

theorem go_inner {j : Job} (h : goJob j s = .ok t) : Inner s t := by
  unfold goJob at h
  split at h
  · split at h
    · cases h
    · split at h
      · cases h
        exact removeHold_inner (Inner.refl s)
      · cases h
  · cases h

theorem killPass_inner (h : killPass s = .ok t) : Inner s t := by
  unfold killPass at h
  split at h
  · cases h
  · split at h <;> cases h
    · exact terminate_inner (Inner.refl s) _ _ _
    · exact terminate_inner (Inner.refl s) _ _ _

theorem kill_inner {j : Job} {b : Bool} (h : killJob j s = .ok (b, t)) : Inner s t := by
  unfold killJob at h
  split at h
  · cases h
    exact leaveQueue_inner (Inner.refl s) _
  · cases h
    exact leaveQueue_inner (Inner.refl s) _
  · cases h
    exact leaveQueue_inner (Inner.refl s) _
  · cases hk : killPass s with
    | error c => simp [hk, Except.map] at h
    | ok v =>
      simp only [hk, Except.map, Except.ok.injEq, Prod.mk.injEq] at h
      exact h.2 ▸ killPass_inner hk
  · cases h

/-- The number search looks at the jobs and the log only (R3). -/
theorem freeNumber_onLink (f : Link → Link) (fuel n : Nat) :
    freeNumber (s.onLink f) fuel n = freeNumber s fuel n := by
  induction fuel generalizing n with
  | zero => rfl
  | succ k ih =>
    have : (s.onLink f).numberInUse n = s.numberInUse n := rfl
    simp only [freeNumber, this, ih]

@[simp] theorem drawnNumber_onLink (f : Link → Link) : (s.onLink f).drawnNumber = s.drawnNumber :=
  freeNumber_onLink f 999 s.backup.counter

theorem queue_kept (a : List Text) : Kept s (requestQueue a s).1 := by
  unfold requestQueue
  repeat' split
  all_goals exact ⟨rfl, rfl, rfl, rfl, rfl, rfl, rfl⟩

theorem unmount_inner (h : Inner s t) : Inner s (unmount t) := h.onQueue _

theorem mount_inner (a : List Text) : Inner s (requestMount a s).1 := by
  unfold requestMount
  repeat' split
  all_goals try exact Inner.refl s
  exact conclude_inner (bindJob_inner (unmount_inner (Inner.refl s)) _)

theorem start_inner (a : List Text) : Inner s (requestStart a s).1 := by
  unfold requestStart
  repeat' split
  all_goals try exact Inner.refl s
  · exact updJob_inner (Inner.refl s) _ _
  · exact conclude_inner (release_inner (Inner.refl s) _ _)

theorem requestHold_inner (a : List Text) : Inner s (requestHold a s).1 := by
  unfold requestHold
  repeat' split
  all_goals try exact Inner.refl s
  exact hold_inner ‹_›

theorem requestGo_inner (a : List Text) : Inner s (requestGo a s).1 := by
  unfold requestGo
  repeat' split
  all_goals try exact Inner.refl s
  exact conclude_inner (go_inner ‹_›)

theorem requestKill_inner (a : List Text) : Inner s (requestKill a s).1 := by
  unfold requestKill
  repeat' split
  all_goals try exact Inner.refl s
  exact conclude_inner (kill_inner ‹_›)

theorem requestRepeat_inner (a : List Text) : Inner s (requestRepeat a s).1 := by
  unfold requestRepeat
  repeat' split
  all_goals try exact Inner.refl s
  exact conclude_inner (release_inner (updJob_inner (Inner.refl s) _ _) _ _)

theorem stationDefine_inner (a : List Text) : Inner s (requestStationDefine a s).1 := by
  unfold requestStationDefine
  repeat' split
  all_goals first | exact Inner.refl s | exact updStation_inner (Inner.refl s) _ _

theorem stationOff_inner (w : Text) : Inner s (requestStationOff w s).1 := by
  unfold requestStationOff
  repeat' split
  all_goals first | exact Inner.refl s | exact updStation_inner (Inner.refl s) _ _

theorem stationRead_same (w : Text) : (requestStationRead w s).1 = s := by
  unfold requestStationRead
  split <;> rfl

theorem maskChange_inner (a : List Text) : Inner s (requestMaskChange a s).1 := by
  unfold requestMaskChange changeMask
  repeat' split
  all_goals try exact Inner.refl s
  · exact updStation_inner (Inner.refl s) _ _
  · exact applyMask_inner (updStation_inner (Inner.refl s) _ _)

theorem set_kept (a : List Text) : Kept s (requestSet a s).1 := by
  unfold requestSet
  repeat' split
  all_goals exact ⟨rfl, rfl, rfl, rfl, rfl, rfl, rfl⟩

theorem get_same (a : List Text) : (requestGet a s).1 = s := by
  unfold requestGet
  repeat' split
  all_goals rfl

theorem loadCurve_inner (h : Inner s t) (k : Nat) (ps : List Nat) : Inner s (loadCurve k ps t) :=
  h.onScan _

theorem curveLoad_inner (a : List Text) : Inner s (requestCurveLoad a s).1 := by
  unfold requestCurveLoad
  repeat' split
  all_goals first | exact Inner.refl s | exact loadCurve_inner (Inner.refl s) _ _

theorem curveRead_same (a : List Text) : (requestCurveRead a s).1 = s := by
  unfold requestCurveRead
  repeat' split
  all_goals rfl

theorem cal_inner (a : List Text) : Inner s (requestCal a s).1 := by
  unfold requestCal
  repeat' split
  all_goals first | exact Inner.refl s | exact askCalibration_inner (Inner.refl s)

theorem calDefault_inner : Inner s (requestCalDefault s).1 := by
  unfold requestCalDefault
  repeat' split
  all_goals first | exact Inner.refl s | exact conclude_inner ((Inner.refl s).onCal _)

theorem clockSet_kept (a : List Text) : Kept s (requestClockSet a s).1 := by
  unfold requestClockSet
  repeat' split
  all_goals exact ⟨rfl, rfl, rfl, rfl, rfl, rfl, rfl⟩

theorem receiptRead_same (a : List Text) : (requestReceiptRead a s).1 = s := by
  unfold requestReceiptRead
  repeat' split
  all_goals rfl

theorem addCopy_inner (h : Inner s t) (n p : Nat) : Inner s (addCopy n p t) := h.onReceipts _

theorem newSlip_inner (h : Inner s t) (n p : Nat) : Inner s (newSlip n p t) :=
  (setSlip_inner h _ _ _).onReceipts _

theorem askCopy_inner (n : Nat) (e : PassEntry) : Inner s (askCopy n e s).1 := by
  unfold askCopy
  repeat' split
  all_goals try exact Inner.refl s
  · exact conclude_inner (newSlip_inner (Inner.refl s) _ _)
  · exact addCopy_inner (Inner.refl s) _ _

theorem slip_inner (a : List Text) : Inner s (requestSlip a s).1 := by
  unfold requestSlip
  repeat' split
  all_goals try exact Inner.refl s
  exact askCopy_inner _ _

theorem status_same (a : List Text) : (requestStatus a s).1 = s := by
  unfold requestStatus
  split <;> rfl

theorem reportsRead_same (a : List Text) : (requestReportsRead a s).1 = s := by
  unfold requestReportsRead
  split <;> rfl

theorem list_same (a : List Text) : (requestList a s).1 = s := by
  unfold requestList
  split <;> rfl

theorem clear_kept (a : List Text) : Kept s (requestClear a s).1 := by
  unfold requestClear
  split <;> exact ⟨rfl, rfl, rfl, rfl, rfl, rfl, rfl⟩

/-! ### RESET -/

theorem resetLink_kept : Kept s (resetLink s) := ⟨rfl, rfl, rfl, rfl, rfl, rfl, rfl⟩

theorem resetQueue_inner (h : Inner s t) : Inner s (resetQueue t) := onPass_inner (h.onQueue _) _

theorem resetDrive_inner (h : Inner s t) : Inner s (resetDrive t) := (motorOff_inner h).onDrive _

theorem resetCal_inner (h : Inner s t) : Inner s (resetCal t) := h.onCal _

theorem resetSender_inner (h : Inner s t) : Inner s (resetSender t) :=
  closePass_inner (scanEnd_inner (onPass_inner h _))

theorem resetCircuit_inner (h : Inner s t) : Inner s (resetCircuit t) :=
  (zeroCounts_inner (stopRounds_inner h)).onCircuit _

theorem resetReceipts_inner (h : Inner s t) : Inner s (resetReceipts t) := by
  unfold resetReceipts closeAll
  dsimp only
  split
  · exact (cutSlip_inner (h.onReceipts _)).onReceipts _
  · exact (h.onReceipts _).onReceipts _

theorem resetAll_inner : Inner (resetLink s) (resetAll s) :=
  conclude_inner <| resetReceipts_inner <| resetCircuit_inner <| resetSender_inner <| resetCal_inner <|
    resetDrive_inner <| resetQueue_inner (Inner.refl _)

theorem reset_kept (a : List Text) : Kept s (requestReset a s).1 := by
  unfold requestReset
  split
  · exact resetLink_kept.trans resetAll_inner.kept
  · exact Kept.refl s

/-! ### Every request, and every command -/

theorem ownerTakes_kept (r : Request) (s : State) : Kept s (ownerTakes r s).1 := by
  cases r
  case queue => exact queue_kept _
  case mount => exact (mount_inner _).kept
  case start => exact (start_inner _).kept
  case hold => exact (requestHold_inner _).kept
  case go => exact (requestGo_inner _).kept
  case kill => exact (requestKill_inner _).kept
  case repeatPass => exact (requestRepeat_inner _).kept
  case list => rw [ownerTakes, list_same]; exact Kept.refl s
  case stationDefine => exact (stationDefine_inner _).kept
  case stationOff => exact (stationOff_inner _).kept
  case stationRead => rw [ownerTakes, stationRead_same]; exact Kept.refl s
  case stationList => exact Kept.refl s
  case maskChange => exact (maskChange_inner _).kept
  case maskRead => exact Kept.refl s
  case setKeys => exact set_kept _
  case getKeys => rw [ownerTakes, get_same]; exact Kept.refl s
  case curveLoad => exact (curveLoad_inner _).kept
  case curveRead => rw [ownerTakes, curveRead_same]; exact Kept.refl s
  case cal => exact (cal_inner _).kept
  case calDefault => exact calDefault_inner.kept
  case clockRead => exact Kept.refl s
  case clockSet => exact clockSet_kept _
  case receiptRead => rw [ownerTakes, receiptRead_same]; exact Kept.refl s
  case receiptList => exact Kept.refl s
  case slipRequest => exact (slip_inner _).kept
  case slipRead => exact Kept.refl s
  case status => rw [ownerTakes, status_same]; exact Kept.refl s
  case reportsOn => exact ⟨rfl, rfl, rfl, rfl, rfl, rfl, rfl⟩
  case reportsOff => exact ⟨rfl, rfl, rfl, rfl, rfl, rfl, rfl⟩
  case reportsRead => rw [ownerTakes, reportsRead_same]; exact Kept.refl s
  case clear => exact clear_kept _
  case reset => exact reset_kept _
  case invalidLine => exact Kept.refl s

theorem pump_pending (s : State) : (pump s).pending = s.pending := rfl

theorem takeRequest_pending (r : Request) (s : State) : (takeRequest r s).pending = s.pending :=
  (ownerTakes_kept r s).pending

theorem deliver_pending (r : Request) (s : State) : (deliver r s).pending = s.pending := by
  unfold deliver completed
  rw [pump_pending]
  dsimp only
  repeat' split
  all_goals first | rfl | exact takeRequest_pending _ _

theorem takeHeld_pending (s : State) : (takeHeld s).pending = s.pending := by
  unfold takeHeld
  split
  · rfl
  · rw [takeRequest_pending]
    split
    · rfl
    · rfl

theorem lineEnds_pending (s : State) : (lineEnds s).pending = s.pending := by
  unfold lineEnds
  split
  · rfl
  · rw [pump_pending, takeHeld_pending]
    rfl

theorem receive_pending (c : RxChar) (s : State) : (receive c s).pending = s.pending := by
  unfold receive
  repeat' split
  all_goals first | rfl | exact deliver_pending _ _

theorem lineTimeout_pending (s : State) : (lineTimeout s).pending = s.pending := by
  unfold lineTimeout
  split
  · rfl
  · rw [pump_pending, post_pending]
    rfl

theorem finish_pending (h : Inner s t) : (finish t).pending = s.pending := (conclude_inner h).pending

end Sys2Proof.Machine
end

