-- ==== Sys2Proof/Laws/Commands.lean ====
section
/-! SUPPORT. What each command that is an event of the drum, the circuit, the panel, the printer or a timer
leaves alone, said once for each: from the state to the state after it runs a passage `Inner`, and after it
at most the transmitter's own step. -/

namespace Sys2Proof.Machine

variable {s t : State}

/-- From `s` to `t`: a passage inside the part, and after it at most the transmitter's step (R171). -/
def Quiet (s t : State) : Prop := ∃ u, Inner s u ∧ (t = u ∨ t = pump u)

theorem Quiet.settings (h : Quiet s t) : t.settings = s.settings := by
  obtain ⟨u, hu, rfl | rfl⟩ := h <;> exact hu.settings

theorem Quiet.backup (h : Quiet s t) : t.backup = s.backup := by
  obtain ⟨u, hu, rfl | rfl⟩ := h <;> exact hu.backup

theorem Quiet.pending (h : Quiet s t) : t.pending = s.pending := by
  obtain ⟨u, hu, rfl | rfl⟩ := h <;> exact hu.pending

theorem Quiet.powered (h : Quiet s t) : t.powered = s.powered := by
  obtain ⟨u, hu, rfl | rfl⟩ := h <;> exact hu.powered

theorem live_quiet {f : State → State} (hf : Inner s (f s)) (h : live f s = .next t) : Quiet s t := by
  unfold live at h
  cases h
  split
  · exact ⟨_, hf, .inl rfl⟩
  · exact ⟨_, Inner.refl s, .inl rfl⟩

theorem pump_quiet {g : State → State} (hg : Inner s (g s)) (h : live (fun s => pump (g s)) s = .next t) :
    Quiet s t := by
  unfold live at h
  cases h
  split
  · exact ⟨_, hg, .inr rfl⟩
  · exact ⟨_, Inner.refl s, .inl rfl⟩

theorem finish_quiet {g : State → State} (hg : Inner s (g s))
    (h : live (fun s => finish (g s)) s = .next t) : Quiet s t :=
  pump_quiet (g := fun s => conclude (g s)) (conclude_inner hg) h

theorem sendKey_inner : Inner s (sendKey s) := by
  unfold sendKey
  repeat' split
  all_goals first | exact Inner.refl s | exact release_inner (Inner.refl s) _ _ | exact go_inner ‹_›

theorem holdKey_inner : Inner s (holdKey s) := by
  unfold holdKey
  repeat' split
  all_goals first | exact Inner.refl s | exact hold_inner ‹_›

theorem stopKey_inner : Inner s (stopKey s) := by
  unfold stopKey
  repeat' split
  all_goals first | exact Inner.refl s | exact kill_inner ‹_›

/-! ### The rows -/

theorem coverClose_quiet (h : exec .coverClose s = .next t) : Quiet s t :=
  finish_quiet (g := coverClose) (coverClose_inner (Inner.refl s)) h

theorem coverOpen_quiet (h : exec .coverOpen s = .next t) : Quiet s t :=
  finish_quiet (g := coverOpens) (coverOpens_inner (Inner.refl s)) h

theorem sendKey_quiet (h : exec .sendKey s = .next t) : Quiet s t :=
  finish_quiet (g := sendKey) sendKey_inner h

theorem holdKey_quiet (h : exec .holdKey s = .next t) : Quiet s t :=
  pump_quiet (g := holdKey) holdKey_inner h

theorem stopKey_quiet (h : exec .stopKey s = .next t) : Quiet s t :=
  finish_quiet (g := stopKey) stopKey_inner h

theorem indexMark_quiet {p : Nat} (h : exec (.indexMark p) s = .next t) : Quiet s t :=
  finish_quiet (g := indexMark p) (indexMark_inner (Inner.refl s) _) h

theorem samplePosition_quiet {p : Nat} {x : BitVec 12} (h : exec (.samplePosition p x) s = .next t) :
    Quiet s t :=
  finish_quiet (g := samplePosition p x.toNat) (samplePosition_inner (Inner.refl s) _ _) h

theorem lockTimerExpiry_quiet (h : exec .lockTimerExpiry s = .next t) : Quiet s t :=
  finish_quiet (g := lockTimeout) (lockTimeout_inner (Inner.refl s)) h

theorem tachometerSilence_quiet (h : exec .tachometerSilence s = .next t) : Quiet s t :=
  pump_quiet (g := tachometerSilence) (tachometerSilence_inner (Inner.refl s)) h

theorem spinUpEntryExpiry_quiet (h : exec .spinUpEntryExpiry s = .next t) : Quiet s t :=
  finish_quiet (g := spinUpEntryExpiry) (spinUpEntryExpiry_inner (Inner.refl s)) h

theorem idleHoldExpiry_quiet (h : exec .idleHoldExpiry s = .next t) : Quiet s t :=
  pump_quiet (g := idleHoldExpiry) (idleHoldExpiry_inner (Inner.refl s)) h

theorem homeSwitch_quiet (h : exec .homeSwitch s = .next t) : Quiet s t :=
  live_quiet (homeSwitch_inner (Inner.refl s)) h

theorem returnTimerExpiry_quiet (h : exec .returnTimerExpiry s = .next t) : Quiet s t :=
  finish_quiet (g := returnTimeout) (returnTimeout_inner (Inner.refl s)) h

theorem stepSense_quiet (h : exec .stepSense s = .next t) : Quiet s t :=
  live_quiet (stepSense_inner (Inner.refl s)) h

theorem endSwitch_quiet (h : exec .endSwitch s = .next t) : Quiet s t :=
  finish_quiet (g := endSwitch) (endSwitch_inner (Inner.refl s)) h

theorem warmUpExpiry_quiet (h : exec .warmUpExpiry s = .next t) : Quiet s t :=
  finish_quiet (g := warmUpExpiry) (warmUpExpiry_inner (Inner.refl s)) h

theorem lampCurrentFault_quiet (h : exec .lampCurrentFault s = .next t) : Quiet s t :=
  finish_quiet (g := lampCurrentFault) (lampCurrentFault_inner (Inner.refl s)) h

theorem temperatureReading_quiet {d : Int} (h : exec (.temperatureReading d) s = .next t) : Quiet s t :=
  finish_quiet (g := temperatureReading d) (temperatureReading_inner (Inner.refl s) _) h

theorem carrierPresent_quiet (h : exec .carrierPresent s = .next t) : Quiet s t :=
  live_quiet (onRounds_inner (Inner.refl s) _) h

theorem returnCharacter_quiet {c : ReturnChar} (h : exec (.returnCharacter c) s = .next t) : Quiet s t :=
  live_quiet (onRounds_inner (Inner.refl s) _) h

theorem slotEnd_quiet (h : exec .slotEnd s = .next t) : Quiet s t :=
  finish_quiet (g := slotEnd) (slotEnd_inner (Inner.refl s)) h

theorem callupSignalEnd_quiet (h : exec .callupSignalEnd s = .next t) : Quiet s t :=
  live_quiet (callupSignalEnd_inner (Inner.refl s)) h

theorem endSignalEnd_quiet (h : exec .endSignalEnd s = .next t) : Quiet s t :=
  live_quiet (endSignalEnd_inner (Inner.refl s)) h

theorem killSignalEnd_quiet (h : exec .killSignalEnd s = .next t) : Quiet s t :=
  finish_quiet (g := killSignalEnd) (killSignalEnd_inner (Inner.refl s)) h

theorem holdDeadline_quiet (h : exec .holdDeadline s = .next t) : Quiet s t :=
  finish_quiet (g := holdDeadline) (holdDeadline_inner (Inner.refl s)) h

theorem breakDeadline_quiet (h : exec .breakDeadline s = .next t) : Quiet s t :=
  finish_quiet (g := breakDeadline) (breakDeadline_inner (Inner.refl s)) h

theorem toneOn_quiet (h : exec .toneOn s = .next t) : Quiet s t := live_quiet (toneOn_inner (Inner.refl s)) h

theorem toneOff_quiet (h : exec .toneOff s = .next t) : Quiet s t :=
  live_quiet (toneOff_inner (Inner.refl s)) h

theorem armingTimerExpiry_quiet (h : exec .armingTimerExpiry s = .next t) : Quiet s t :=
  finish_quiet (g := armingExpiry) (armingExpiry_inner (Inner.refl s)) h

theorem endingTimerExpiry_quiet (h : exec .endingTimerExpiry s = .next t) : Quiet s t :=
  finish_quiet (g := endingExpiry) (endingExpiry_inner (Inner.refl s)) h

theorem slipLinePrinted_quiet (h : exec .slipLinePrinted s = .next t) : Quiet s t :=
  finish_quiet (g := slipLineDone) (slipLineDone_inner (Inner.refl s)) h

theorem paperOut_quiet (h : exec .paperOut s = .next t) : Quiet s t :=
  pump_quiet (g := paperOut) (paperOut_inner (Inner.refl s)) h

theorem paperIn_quiet (h : exec .paperIn s = .next t) : Quiet s t :=
  pump_quiet (g := paperIn) (paperIn_inner (Inner.refl s)) h

end Sys2Proof.Machine
end

