-- ==== Sys2Proof/Laws/Drive.lean ====
section
/-! SUPPORT. What the drive's shared operations do: motor and lamp off, the measures of a revolution, and an
index mark in LOCKED as the blocks after the drive find it. -/

namespace Sys2Proof.Machine

variable {s t : State}

/-! ### Motor and lamp off -/

theorem motorOff_eq (s : State) :
    motorOff s =
      { s with
        drive := stopMotor s.drive
        link := s.link.posted (if s.drive.drum.motorOn then [.drum .coasting none] else []) } := by
  unfold motorOff
  cases s.drive.drum.motorOn
  · simp [posted_nil, State.onDrive]
  · simp [post_eq, State.onDrive]

theorem lampOff_eq (s : State) :
    lampOff s =
      { s with
        drive :=
          { s.drive with
            lamp := .off
            warmTimer := if s.drive.lamp = .off then s.drive.warmTimer else none }
        link :=
          s.link.posted (if s.drive.lamp ≠ .off ∧ s.cal.state = .fresh then [.calStaleLamp] else [])
        cal :=
          { s.cal with
            state := if s.drive.lamp ≠ .off ∧ s.cal.state = .fresh then .stale else s.cal.state } } := by
  unfold lampOff staleLamp
  by_cases h : s.drive.lamp = .off
  · simp only [h, if_true, ne_eq, not_true_eq_false, false_and, if_false, posted_nil]
    simp [← h]
  · by_cases h2 : s.cal.state = .fresh
    · simp [h, h2, post_eq, State.onDrive, State.onCal]
    · simp [h, h2, State.onDrive, posted_nil]

/-! ### The measures of a revolution (R27) -/

theorem withinPermille_iff (limit : Nat) (v : Speed) (period : Nat) :
    withinPermille limit v period = true ↔ withinError limit v period := by
  rw [withinPermille, decide_eq_true_iff, periodError, withinError, abs_le]
  generalize hm : period * v.rpm = m
  have h : (period : Int) * v.rpm = m := by rw [← hm, Nat.cast_mul]
  rw [h]
  omega

theorem withinPermille_false (limit : Nat) (v : Speed) (period : Nat) :
    withinPermille limit v period = false ↔ ¬ withinError limit v period := by
  rw [← withinPermille_iff]; simp

/-! ### Index marks (R31) -/

theorem calIndex_idle (locked good : Bool) (h1 : s.cal.run = none) (h2 : s.cal.request = false) :
    calIndex locked good s = s := by simp [calIndex, h1, runMayBegin, h2]

/-- With no pass, no run and no request an index mark is nothing to the blocks after the drive. -/
theorem handIndex_idle (locked good : Bool) (h1 : s.sender.pass = none) (h2 : s.scan.pass = none)
    (h3 : s.cal.run = none) (h4 : s.cal.request = false) : handIndex locked good s = s := by
  have h : s.onScan (closeLine good) = s := by simp only [State.onScan, closeLine, h2]
  simp [handIndex, h, senderIndex, h1, beginLine, h2, calIndex_idle locked good h3 h4]

/-- The drive after an index mark in LOCKED that takes no fault (R30, R31). -/
def Drive.judged (v : Speed) (period : Nat) (d : Drive) : Drive :=
  { d with lossCount := if withinError 10 v period then 0 else 1, nextPos := some 0 }

/-- An index mark in LOCKED that takes no fault hands the blocks the drive's verdict. -/
theorem exec_lockedMark {period : Nat} {v : Speed} (hp : s.powered = true) (hd : s.drive.drum = .locked)
    (hv : s.drive.lockedAt = some v) (hl : withinError 10 v period ∨ s.drive.lossCount = 0) :
    exec (.indexMark period) s =
      .next (finish (handIndex true (withinPermille 3 v period)
        { s with drive := s.drive.judged v period })) := by
  have hx : exec (.indexMark period) s = live (fun s => finish (indexMark period s)) s := rfl
  have hc : lossAfter v period s.drive.lossCount = if withinError 10 v period then 0 else 1 := by
    unfold lossAfter
    simp only [withinPermille_iff]
    split
    · rfl
    · rw [hl.resolve_left ‹_›]
  have h2 : ¬ 2 ≤ (if withinError 10 v period then 0 else 1) := by split <;> decide
  rw [hx, live_on _ hp]
  simp only [indexMark, hd, DrumState.approaching, lockedMark, hv, Option.getD_some, hc, if_neg h2]
  simp [State.onDrive, hd, Drive.judged]

/-- A line begun at an index mark changes the Scan Unit and the carriage alone (R69). -/
theorem beginLine_frame (perm : Permission) (locked : Bool) (s : State) :
    beginLine perm locked s =
      { s with
        scan := (beginLine perm locked s).scan
        drive := (beginLine perm locked s).drive } := by
  unfold beginLine
  split
  · rfl
  · split
    · dsimp only; split <;> rfl
    · rfl

end Sys2Proof.Machine
end

