-- ==== Sys2Proof/Laws/PerInstr.lean ====
section
/-! SUPPORT. Two laws said of every command: a request row is delivered by the command it names, and the
words it is written as are read back as that row. -/

namespace Sys2Proof.Laws

/-- A command that delivers a request is that request's row. -/
def RequestOf.Statement (i : Instr) : Prop := ∀ r, i.request? = some r → r.toInstr = i

/-- The words of a request row of well-formed shape are read as that row (section 9.3). -/
def Encodes.Statement (i : Instr) : Prop :=
  ∀ r n args, i.request? = some r → r.shapeOk = true → requestWords r = some (n, args) →
    requestOf n args = r

theorem Encodes.of_none {i : Instr} (h : i.request? = none) : Encodes.Statement i := by
  intro r n args hr
  rw [h] at hr
  cases hr

theorem RequestOf.queue (a : List Text) : RequestOf.Statement (.queue a) := by
  intro r h; cases h; rfl

theorem RequestOf.mount (a : List Text) : RequestOf.Statement (.mount a) := by
  intro r h; cases h; rfl

theorem RequestOf.start (a : List Text) : RequestOf.Statement (.start a) := by
  intro r h; cases h; rfl

theorem RequestOf.hold (a : List Text) : RequestOf.Statement (.hold a) := by
  intro r h; cases h; rfl

theorem RequestOf.go (a : List Text) : RequestOf.Statement (.go a) := by
  intro r h; cases h; rfl

theorem RequestOf.kill (a : List Text) : RequestOf.Statement (.kill a) := by
  intro r h; cases h; rfl

theorem RequestOf.repeatPass (a : List Text) : RequestOf.Statement (.repeatPass a) := by
  intro r h; cases h; rfl

theorem RequestOf.list (a : List Text) : RequestOf.Statement (.list a) := by
  intro r h; cases h; rfl

theorem RequestOf.stationDefine (a : List Text) : RequestOf.Statement (.stationDefine a) := by
  intro r h; cases h; rfl

theorem RequestOf.stationOff (a : Text) : RequestOf.Statement (.stationOff a) := by
  intro r h; cases h; rfl

theorem RequestOf.stationRead (a : Text) : RequestOf.Statement (.stationRead a) := by
  intro r h; cases h; rfl

theorem RequestOf.stationList : RequestOf.Statement .stationList := by
  intro r h; cases h; rfl

theorem RequestOf.maskChange (a : List Text) : RequestOf.Statement (.maskChange a) := by
  intro r h; cases h; rfl

theorem RequestOf.maskRead : RequestOf.Statement .maskRead := by
  intro r h; cases h; rfl

theorem RequestOf.setKeys (a : List Text) : RequestOf.Statement (.setKeys a) := by
  intro r h; cases h; rfl

theorem RequestOf.getKeys (a : List Text) : RequestOf.Statement (.getKeys a) := by
  intro r h; cases h; rfl

theorem RequestOf.curveLoad (a : List Text) : RequestOf.Statement (.curveLoad a) := by
  intro r h; cases h; rfl

theorem RequestOf.curveRead (a : List Text) : RequestOf.Statement (.curveRead a) := by
  intro r h; cases h; rfl

theorem RequestOf.cal (a : List Text) : RequestOf.Statement (.cal a) := by
  intro r h; cases h; rfl

theorem RequestOf.calDefault : RequestOf.Statement .calDefault := by
  intro r h; cases h; rfl

theorem RequestOf.clockRead : RequestOf.Statement .clockRead := by
  intro r h; cases h; rfl

theorem RequestOf.clockSet (a : List Text) : RequestOf.Statement (.clockSet a) := by
  intro r h; cases h; rfl

theorem RequestOf.receiptRead (a : List Text) : RequestOf.Statement (.receiptRead a) := by
  intro r h; cases h; rfl

theorem RequestOf.receiptList : RequestOf.Statement .receiptList := by
  intro r h; cases h; rfl

theorem RequestOf.slipRequest (a : List Text) : RequestOf.Statement (.slipRequest a) := by
  intro r h; cases h; rfl

theorem RequestOf.slipRead : RequestOf.Statement .slipRead := by
  intro r h; cases h; rfl

theorem RequestOf.status (a : List Text) : RequestOf.Statement (.status a) := by
  intro r h; cases h; rfl

theorem RequestOf.reportsOn : RequestOf.Statement .reportsOn := by
  intro r h; cases h; rfl

theorem RequestOf.reportsOff : RequestOf.Statement .reportsOff := by
  intro r h; cases h; rfl

theorem RequestOf.reportsRead (a : List Text) : RequestOf.Statement (.reportsRead a) := by
  intro r h; cases h; rfl

theorem RequestOf.clear (a : List Text) : RequestOf.Statement (.clear a) := by
  intro r h; cases h; rfl

theorem RequestOf.reset (a : List Text) : RequestOf.Statement (.reset a) := by
  intro r h; cases h; rfl

theorem RequestOf.invalidLine (a : BadLine) : RequestOf.Statement (.invalidLine a) := by
  intro r h; cases h; rfl

theorem RequestOf.characterReceived (a : RxChar) : RequestOf.Statement (.characterReceived a) := by
  intro r h; cases h

theorem RequestOf.interCharacterTimeout : RequestOf.Statement .interCharacterTimeout := by
  intro r h; cases h

theorem RequestOf.lineSent : RequestOf.Statement .lineSent := by
  intro r h; cases h

theorem RequestOf.coverClose : RequestOf.Statement .coverClose := by
  intro r h; cases h

theorem RequestOf.coverOpen : RequestOf.Statement .coverOpen := by
  intro r h; cases h

theorem RequestOf.sendKey : RequestOf.Statement .sendKey := by
  intro r h; cases h

theorem RequestOf.holdKey : RequestOf.Statement .holdKey := by
  intro r h; cases h

theorem RequestOf.stopKey : RequestOf.Statement .stopKey := by
  intro r h; cases h

theorem RequestOf.indexMark (a : Nat) : RequestOf.Statement (.indexMark a) := by
  intro r h; cases h

theorem RequestOf.samplePosition (a : Nat) (b : BitVec 12) : RequestOf.Statement (.samplePosition a b) := by
  intro r h; cases h

theorem RequestOf.lockTimerExpiry : RequestOf.Statement .lockTimerExpiry := by
  intro r h; cases h

theorem RequestOf.tachometerSilence : RequestOf.Statement .tachometerSilence := by
  intro r h; cases h

theorem RequestOf.spinUpEntryExpiry : RequestOf.Statement .spinUpEntryExpiry := by
  intro r h; cases h

theorem RequestOf.idleHoldExpiry : RequestOf.Statement .idleHoldExpiry := by
  intro r h; cases h

theorem RequestOf.homeSwitch : RequestOf.Statement .homeSwitch := by
  intro r h; cases h

theorem RequestOf.returnTimerExpiry : RequestOf.Statement .returnTimerExpiry := by
  intro r h; cases h

theorem RequestOf.stepSense : RequestOf.Statement .stepSense := by
  intro r h; cases h

theorem RequestOf.endSwitch : RequestOf.Statement .endSwitch := by
  intro r h; cases h

theorem RequestOf.warmUpExpiry : RequestOf.Statement .warmUpExpiry := by
  intro r h; cases h

theorem RequestOf.lampCurrentFault : RequestOf.Statement .lampCurrentFault := by
  intro r h; cases h

theorem RequestOf.temperatureReading (a : Int) : RequestOf.Statement (.temperatureReading a) := by
  intro r h; cases h

theorem RequestOf.carrierPresent : RequestOf.Statement .carrierPresent := by
  intro r h; cases h

theorem RequestOf.returnCharacter (a : ReturnChar) : RequestOf.Statement (.returnCharacter a) := by
  intro r h; cases h

theorem RequestOf.slotEnd : RequestOf.Statement .slotEnd := by
  intro r h; cases h

theorem RequestOf.callupSignalEnd : RequestOf.Statement .callupSignalEnd := by
  intro r h; cases h

theorem RequestOf.endSignalEnd : RequestOf.Statement .endSignalEnd := by
  intro r h; cases h

theorem RequestOf.killSignalEnd : RequestOf.Statement .killSignalEnd := by
  intro r h; cases h

theorem RequestOf.holdDeadline : RequestOf.Statement .holdDeadline := by
  intro r h; cases h

theorem RequestOf.breakDeadline : RequestOf.Statement .breakDeadline := by
  intro r h; cases h

theorem RequestOf.toneOn : RequestOf.Statement .toneOn := by
  intro r h; cases h

theorem RequestOf.toneOff : RequestOf.Statement .toneOff := by
  intro r h; cases h

theorem RequestOf.armingTimerExpiry : RequestOf.Statement .armingTimerExpiry := by
  intro r h; cases h

theorem RequestOf.endingTimerExpiry : RequestOf.Statement .endingTimerExpiry := by
  intro r h; cases h

theorem RequestOf.slipLinePrinted : RequestOf.Statement .slipLinePrinted := by
  intro r h; cases h

theorem RequestOf.paperOut : RequestOf.Statement .paperOut := by
  intro r h; cases h

theorem RequestOf.paperIn : RequestOf.Statement .paperIn := by
  intro r h; cases h

theorem RequestOf.secondEvent : RequestOf.Statement .secondEvent := by
  intro r h; cases h

theorem RequestOf.batteryChange (a : Battery) : RequestOf.Statement (.batteryChange a) := by
  intro r h; cases h

theorem RequestOf.retentionLatchSet : RequestOf.Statement .retentionLatchSet := by
  intro r h; cases h

theorem RequestOf.powerUp (a : PowerPins) : RequestOf.Statement (.powerUp a) := by
  intro r h; cases h

theorem RequestOf.mainPowerLoss : RequestOf.Statement .mainPowerLoss := by
  intro r h; cases h

theorem Encodes.queue (a : List Text) : Encodes.Statement (.queue a) := by
  intro r n args h hs hw; cases h; cases hw; rfl

theorem Encodes.mount (a : List Text) : Encodes.Statement (.mount a) := by
  intro r n args h hs hw; cases h; cases hw; rfl

theorem Encodes.start (a : List Text) : Encodes.Statement (.start a) := by
  intro r n args h hs hw; cases h; cases hw; rfl

theorem Encodes.hold (a : List Text) : Encodes.Statement (.hold a) := by
  intro r n args h hs hw; cases h; cases hw; rfl

theorem Encodes.go (a : List Text) : Encodes.Statement (.go a) := by
  intro r n args h hs hw; cases h; cases hw; rfl

theorem Encodes.kill (a : List Text) : Encodes.Statement (.kill a) := by
  intro r n args h hs hw; cases h; cases hw; rfl

theorem Encodes.repeatPass (a : List Text) : Encodes.Statement (.repeatPass a) := by
  intro r n args h hs hw; cases h; cases hw; rfl

theorem Encodes.list (a : List Text) : Encodes.Statement (.list a) := by
  intro r n args h hs hw; cases h; cases hw; rfl

theorem Encodes.stationDefine (a : List Text) : Encodes.Statement (.stationDefine a) := by
  intro r n args h hs hw; cases h; cases hw
  match a, hs with
  | [x, y], hs =>
    simp only [Request.shapeOk, List.drop_succ_cons, List.drop_zero, Bool.and_eq_true, decide_eq_true_eq] at hs
    exact if_neg fun h => hs.2 (by rw [h])
  | x :: y :: z :: rest, _ => rfl

theorem Encodes.stationOff (a : Text) : Encodes.Statement (.stationOff a) := by
  intro r n args h hs hw; cases h; cases hw; rfl

theorem Encodes.stationRead (a : Text) : Encodes.Statement (.stationRead a) := by
  intro r n args h hs hw; cases h; cases hw; rfl

theorem Encodes.stationList : Encodes.Statement .stationList := by
  intro r n args h hs hw; cases h; cases hw; rfl

theorem Encodes.maskChange (a : List Text) : Encodes.Statement (.maskChange a) := by
  intro r n args h hs hw; cases h; cases hw
  match a, hs with
  | x :: rest, _ => rfl

theorem Encodes.maskRead : Encodes.Statement .maskRead := by
  intro r n args h hs hw; cases h; cases hw; rfl

theorem Encodes.setKeys (a : List Text) : Encodes.Statement (.setKeys a) := by
  intro r n args h hs hw; cases h; cases hw; rfl

theorem Encodes.getKeys (a : List Text) : Encodes.Statement (.getKeys a) := by
  intro r n args h hs hw; cases h; cases hw; rfl

theorem Encodes.curveLoad (a : List Text) : Encodes.Statement (.curveLoad a) := by
  intro r n args h hs hw; cases h; cases hw
  match a, hs with
  | x :: y :: rest, _ => rfl

theorem Encodes.curveRead (a : List Text) : Encodes.Statement (.curveRead a) := by
  intro r n args h hs hw; cases h; cases hw
  match a, hs with
  | [], _ => rfl
  | [x], _ => rfl

theorem Encodes.cal (a : List Text) : Encodes.Statement (.cal a) := by
  intro r n args h hs hw; cases h; cases hw
  exact if_neg (of_decide_eq_true hs)

theorem Encodes.calDefault : Encodes.Statement .calDefault := by
  intro r n args h hs hw; cases h; cases hw; rfl

theorem Encodes.clockRead : Encodes.Statement .clockRead := by
  intro r n args h hs hw; cases h; cases hw; rfl

theorem Encodes.clockSet (a : List Text) : Encodes.Statement (.clockSet a) := by
  intro r n args h hs hw; cases h; cases hw
  match a, hs with
  | x :: rest, _ => rfl

theorem Encodes.receiptRead (a : List Text) : Encodes.Statement (.receiptRead a) := by
  intro r n args h hs hw; cases h; cases hw
  match a, hs with
  | x :: rest, _ => rfl

theorem Encodes.receiptList : Encodes.Statement .receiptList := by
  intro r n args h hs hw; cases h; cases hw; rfl

theorem Encodes.slipRequest (a : List Text) : Encodes.Statement (.slipRequest a) := by
  intro r n args h hs hw; cases h; cases hw
  match a, hs with
  | x :: rest, _ => rfl

theorem Encodes.slipRead : Encodes.Statement .slipRead := by
  intro r n args h hs hw; cases h; cases hw; rfl

theorem Encodes.status (a : List Text) : Encodes.Statement (.status a) := by
  intro r n args h hs hw; cases h; cases hw; rfl

theorem Encodes.reportsOn : Encodes.Statement .reportsOn := by
  intro r n args h hs hw; cases h; cases hw; rfl

theorem Encodes.reportsOff : Encodes.Statement .reportsOff := by
  intro r n args h hs hw; cases h; cases hw; rfl

theorem Encodes.reportsRead (a : List Text) : Encodes.Statement (.reportsRead a) := by
  intro r n args h hs hw; cases h; cases hw
  simp only [Request.shapeOk, Bool.and_eq_true, decide_eq_true_eq] at hs
  exact (if_neg hs.1).trans (if_neg hs.2)

theorem Encodes.clear (a : List Text) : Encodes.Statement (.clear a) := by
  intro r n args h hs hw; cases h; cases hw; rfl

theorem Encodes.reset (a : List Text) : Encodes.Statement (.reset a) := by
  intro r n args h hs hw; cases h; cases hw; rfl

theorem Encodes.invalidLine (a : BadLine) : Encodes.Statement (.invalidLine a) := by
  intro r n args h hs hw; cases h; cases hw
theorem Encodes.characterReceived (a : RxChar) : Encodes.Statement (.characterReceived a) := Encodes.of_none rfl

theorem Encodes.interCharacterTimeout : Encodes.Statement .interCharacterTimeout := Encodes.of_none rfl

theorem Encodes.lineSent : Encodes.Statement .lineSent := Encodes.of_none rfl

theorem Encodes.coverClose : Encodes.Statement .coverClose := Encodes.of_none rfl

theorem Encodes.coverOpen : Encodes.Statement .coverOpen := Encodes.of_none rfl

theorem Encodes.sendKey : Encodes.Statement .sendKey := Encodes.of_none rfl

theorem Encodes.holdKey : Encodes.Statement .holdKey := Encodes.of_none rfl

theorem Encodes.stopKey : Encodes.Statement .stopKey := Encodes.of_none rfl

theorem Encodes.indexMark (a : Nat) : Encodes.Statement (.indexMark a) := Encodes.of_none rfl

theorem Encodes.samplePosition (a : Nat) (b : BitVec 12) : Encodes.Statement (.samplePosition a b) := Encodes.of_none rfl

theorem Encodes.lockTimerExpiry : Encodes.Statement .lockTimerExpiry := Encodes.of_none rfl

theorem Encodes.tachometerSilence : Encodes.Statement .tachometerSilence := Encodes.of_none rfl

theorem Encodes.spinUpEntryExpiry : Encodes.Statement .spinUpEntryExpiry := Encodes.of_none rfl

theorem Encodes.idleHoldExpiry : Encodes.Statement .idleHoldExpiry := Encodes.of_none rfl

theorem Encodes.homeSwitch : Encodes.Statement .homeSwitch := Encodes.of_none rfl

theorem Encodes.returnTimerExpiry : Encodes.Statement .returnTimerExpiry := Encodes.of_none rfl

theorem Encodes.stepSense : Encodes.Statement .stepSense := Encodes.of_none rfl

theorem Encodes.endSwitch : Encodes.Statement .endSwitch := Encodes.of_none rfl

theorem Encodes.warmUpExpiry : Encodes.Statement .warmUpExpiry := Encodes.of_none rfl

theorem Encodes.lampCurrentFault : Encodes.Statement .lampCurrentFault := Encodes.of_none rfl

theorem Encodes.temperatureReading (a : Int) : Encodes.Statement (.temperatureReading a) := Encodes.of_none rfl

theorem Encodes.carrierPresent : Encodes.Statement .carrierPresent := Encodes.of_none rfl

theorem Encodes.returnCharacter (a : ReturnChar) : Encodes.Statement (.returnCharacter a) := Encodes.of_none rfl

theorem Encodes.slotEnd : Encodes.Statement .slotEnd := Encodes.of_none rfl

theorem Encodes.callupSignalEnd : Encodes.Statement .callupSignalEnd := Encodes.of_none rfl

theorem Encodes.endSignalEnd : Encodes.Statement .endSignalEnd := Encodes.of_none rfl

theorem Encodes.killSignalEnd : Encodes.Statement .killSignalEnd := Encodes.of_none rfl

theorem Encodes.holdDeadline : Encodes.Statement .holdDeadline := Encodes.of_none rfl

theorem Encodes.breakDeadline : Encodes.Statement .breakDeadline := Encodes.of_none rfl

theorem Encodes.toneOn : Encodes.Statement .toneOn := Encodes.of_none rfl

theorem Encodes.toneOff : Encodes.Statement .toneOff := Encodes.of_none rfl

theorem Encodes.armingTimerExpiry : Encodes.Statement .armingTimerExpiry := Encodes.of_none rfl

theorem Encodes.endingTimerExpiry : Encodes.Statement .endingTimerExpiry := Encodes.of_none rfl

theorem Encodes.slipLinePrinted : Encodes.Statement .slipLinePrinted := Encodes.of_none rfl

theorem Encodes.paperOut : Encodes.Statement .paperOut := Encodes.of_none rfl

theorem Encodes.paperIn : Encodes.Statement .paperIn := Encodes.of_none rfl

theorem Encodes.secondEvent : Encodes.Statement .secondEvent := Encodes.of_none rfl

theorem Encodes.batteryChange (a : Battery) : Encodes.Statement (.batteryChange a) := Encodes.of_none rfl

theorem Encodes.retentionLatchSet : Encodes.Statement .retentionLatchSet := Encodes.of_none rfl

theorem Encodes.powerUp (a : PowerPins) : Encodes.Statement (.powerUp a) := Encodes.of_none rfl

theorem Encodes.mainPowerLoss : Encodes.Statement .mainPowerLoss := Encodes.of_none rfl

end Sys2Proof.Laws
end

