-- ==== Sys2Proof/Laws/Sender.lean ====
section
/-! SUPPORT. What the Sender's shared operations do: a pause that takes effect, a pass that is decided,
terminated or closed, and the end of a step in which no job is RELEASED. -/

namespace Sys2Proof.Machine

variable {s : State} {p : Pass}

/-! ### The end of a step -/

theorem kick_frame (s : State) : kick s = { s with receipts := (kick s).receipts } := by
  unfold kick
  split <;> rfl

/-- The end of a step in which no job is RELEASED: the printer and the transmitter alone go on. -/
theorem finish_unreleased (h : s.releasedJob = none) :
    finish s = { s with link := s.link.pumped, receipts := (kick s).receipts } := by
  rw [finish, conclude, settle_none h, pump_eq, kick_frame]

/-! ### Pauses (R136) -/

theorem takePause_eq {pt : ResumePoint} (hp : s.sender.pass = some p) (hpt : pt ≠ .callup) :
    takePause pt s =
      { s with
        link := s.link.posted [.pause p.job p.holdReason p.breakReason]
        sender :=
          ⟨.paused, some { p with resume := some pt, pausePending := false, line := none }, pauseTone p,
            none⟩ } := by
  simp [takePause, hp, hpt, postPause, setCirc, State.onPass, State.onSender, post_eq]

theorem takePause_callup (hp : s.sender.pass = some p) :
    takePause .callup s =
      { s with
        link := s.link.posted [.pause p.job p.holdReason p.breakReason]
        sender :=
          ⟨.paused,
            some
              { p with
                resume := some .callup
                pausePending := false
                line := none
                party := p.party.map uninvite
                windowOpen := false
                openRound := none
                closeRound := none },
            pauseTone p, none⟩ } := by
  simp [takePause, hp, postPause, setCirc, State.onPass, State.onSender, post_eq]

/-! ### A pass decided and terminated (R144) -/

/-- The Scan Unit after the end of scanning (R72). -/
def Scan.over (c : Scan) : Scan :=
  match c.pass with
  | none => c
  | some x =>
    if x.ended then c else { c with store := [], pass := some { x with line := none, ended := true } }

theorem scanEnd_eq (s : State) : scanEnd s = { s with scan := s.scan.over } := rfl

/-- The pass record with its outcome decided (R144, R149). -/
def Pass.decided (o : PassOutcome) (r : Option Reason) (p : Pass) : Pass :=
  { p with
    outcome := some o
    reason := r
    holdReason := false
    breakReason := false
    pausePending := false
    resume := none
    holdDeadline := none
    breakDeadline := none
    line := none }

theorem decidePass_eq (o : PassOutcome) (r : Option Reason) (hp : s.sender.pass = some p) :
    decidePass o r s = { s with sender := { s.sender with pass := some (p.decided o r) } } := by
  simp [decidePass, State.onPass, State.onSender, hp, Pass.decided]

theorem terminate_signal (o : PassOutcome) (r : Option Reason) (hp : s.sender.pass = some p) :
    terminate o r true s =
      { s with
        scan := s.scan.over
        sender :=
          ⟨.killing, some (p.decided o r), .kill s.now, some (s.now + Config.signalTime)⟩ } := by
  simp [terminate, decidePass_eq o r hp, enterKilling, scanEnd_eq, State.onSender]

theorem terminate_close (o : PassOutcome) (r : Option Reason) (hp : s.sender.pass = some p) :
    terminate o r false s =
      closePass { s with sender := { s.sender with pass := some (p.decided o r) } } := by
  simp [terminate, decidePass_eq o r hp]

theorem closeRecord_frame (n : Nat) (s : State) :
    closeRecord n s = { s with receipts := { s.receipts with log := (closeRecord n s).receipts.log } } := by
  unfold closeRecord
  split <;> rfl

@[simp] theorem closeRecord_link (n : Nat) (s : State) : (closeRecord n s).link = s.link := by
  rw [closeRecord_frame]

@[simp] theorem closeRecord_queue (n : Nat) (s : State) : (closeRecord n s).queue = s.queue := by
  rw [closeRecord_frame]

@[simp] theorem closeRecord_drive (n : Nat) (s : State) : (closeRecord n s).drive = s.drive := by
  rw [closeRecord_frame]

@[simp] theorem closeRecord_scan (n : Nat) (s : State) : (closeRecord n s).scan = s.scan := by
  rw [closeRecord_frame]

@[simp] theorem closeRecord_circuit (n : Nat) (s : State) : (closeRecord n s).circuit = s.circuit := by
  rw [closeRecord_frame]

@[simp] theorem completePass_link (p : Pass) (o : PassOutcome) (s : State) :
    (completePass p o s).link = s.link := closeRecord_link _ _

@[simp] theorem completePass_queue (p : Pass) (o : PassOutcome) (s : State) :
    (completePass p o s).queue = s.queue := closeRecord_queue _ _

@[simp] theorem completePass_drive (p : Pass) (o : PassOutcome) (s : State) :
    (completePass p o s).drive = s.drive := closeRecord_drive _ _

@[simp] theorem completePass_circuit (p : Pass) (o : PassOutcome) (s : State) :
    (completePass p o s).circuit = s.circuit := closeRecord_circuit _ _

/-! ### The close (R131, R21) -/

/-- The queue withdraws its want, the only one held, with an IDLE setting that lasts: idle hold begins. -/
theorem withdrawQueueWant_only (hq : s.drive.queueWant.isSome) (hc : s.drive.calWant = none)
    (hi : s.settings.idle ≠ 0) :
    withdrawQueueWant s =
      { s with
        drive :=
          { s.drive with
            queueWant := none
            faultHold := false
            pendingStart := false
            idleTimer := some (s.now + 1000 * s.settings.idle) } } := by
  obtain ⟨v, hv⟩ := Option.isSome_iff_exists.mp hq
  simp [withdrawQueueWant, hv, wantWithdrawn, State.onDrive, Drive.wanted, hc, beginIdle, hi]

/-- The drive after the queue's want was withdrawn, the only one held (R17, R37, R38). -/
def Drive.unwanted (idleEnds : Moment) (d : Drive) : Drive :=
  { d with queueWant := none, faultHold := false, pendingStart := false, idleTimer := some idleEnds }

/-- The end of a pass at the queue: its link, queue and wants (R21, R24, R38). -/
theorem passEndQueue_only {n : Nat} {j : Job} (o : PassOutcome) (hj : s.findJob n = some j)
    (hn : j.number = n) (ha : j.state = .active) (hl : s.queue.load ≠ .coverOpen)
    (hq : s.drive.queueWant.isSome) (hc : s.drive.calWant = none) (hi : s.settings.idle ≠ 0) :
    ∃ rec : Receipts,
      passEndQueue n o s =
        { s with
          link := s.link.posted (if o = .killed then [.loadUnbound] else [])
          queue :=
            if o = .killed then ⟨s.queue.jobs.filter fun k => k.number != n, .unbound, []⟩
            else
              { s.queue with
                jobs := s.queue.jobs.map fun k => if k.number = n then { k with state := .finished } else k }
          drive := s.drive.unwanted (s.now + 1000 * s.settings.idle)
          receipts := rec } := by
  unfold passEndQueue
  rw [withdrawQueueWant_only hq hc hi]
  by_cases ho : o = .killed
  · simp only [State.findJob] at hj
    simp only [ho, if_true, State.findJob, hj, leaveQueue, ha, hn]
    rw [closeRecord_frame]
    simp [withdrawQueueWant, State.onQueue, State.coverOpen, hl, post_eq, Drive.unwanted]
  · exact ⟨s.receipts, by simp [ho, updJob, State.onQueue, posted_nil, Drive.unwanted]⟩

theorem completePass_frame (p : Pass) (o : PassOutcome) (s : State) :
    completePass p o s = { s with receipts := (completePass p o s).receipts } := by
  unfold completePass
  rw [closeRecord_frame]
  rfl

/-- The close of a pass (R131): what it posts and what it leaves, `State.closes`. -/
theorem closePass_closes {o : PassOutcome} (hp : s.sender.pass = some p)
    (ho : p.outcome.getD .failed = o) (hh : s.holdsJob p) :
    (closePass s).link = s.link.posted (p.endReports o p.reason) ∧ (closePass s).now = s.now ∧
      s.closes (closePass s) p o := by
  have hend : s.scan.pass.any (fun x => !x.ended) = true → s.scan.over.store = [] := by
    intro h
    cases hx : s.scan.pass with
    | none => simp [hx] at h
    | some x =>
      have : x.ended = false := by simpa [hx] using h
      simp [Scan.over, hx, this]
  unfold closePass
  simp only [hp, ho, post_eq]
  rw [completePass_frame]
  generalize (completePass p.closed o (stopRounds (scanEnd s))).receipts = rec
  by_cases hd : p.detached = true
  · simp only [hd, if_true]
    refine ⟨?_, rfl, rfl, ?_, rfl, ?_, rfl, hend, ?_, fun _ => rfl, ?_⟩ <;>
      simp [hd, setCirc, State.onScan, State.onSender, State.breakPresent, scanEnd_eq, stopRounds, applyMask,
        State.onCircuit, Pass.endReports, Function.comp_def]
  · have hd' : p.detached = false := by simpa using hd
    obtain ⟨hl, hj, hq, hc, hi⟩ := hh hd'
    obtain ⟨j, hf, ha⟩ := Option.map_eq_some_iff.mp hj
    have hn : j.number = p.job := by simpa using List.find?_some hf
    simp only [hd', Bool.false_eq_true, if_false]
    obtain ⟨r, hr⟩ := @passEndQueue_only
      { stopRounds (scanEnd s) with
        link := (stopRounds (scanEnd s)).link.posted [.passEnd p.job p.number o p.reason]
        receipts := rec } p.job j o hf hn ha hl hq hc hi
    rw [hr]
    refine ⟨?_, rfl, rfl, ?_, rfl, ?_, rfl, hend, ?_, ?_, fun _ => ⟨rfl, rfl, rfl, rfl⟩⟩ <;>
      simp [hd', setCirc, State.onScan, State.onSender, State.breakPresent, Pass.endReports, Function.comp_def,
        posted_append, stopRounds, scanEnd_eq, applyMask, State.onCircuit]

end Sys2Proof.Machine
end

