-- ==== Sys2Proof/Laws/Start.lean ====
section
/-! SUPPORT. What the start of rounds, the entry to CALLUP and the start of a job do, said once as the whole
state after each (R98, R113, R20). -/

namespace Sys2Proof.Machine

variable {s : State}

/-- A roster entry at a start of rounds (R92, R94). -/
def Station.started (e : Station) : Station := { e with masked := e.maskPending, silence := 0, noise := 0 }

theorem startRounds_eq (slots : Nat) (s : State) :
    startRounds slots s =
      { s with
        circuit :=
          { s.circuit with
            roster := s.circuit.roster.map Station.started
            rounds := some (freshSlot slots 1 0 (s.now + Config.slotTime) s.breakPresent) } } := by
  simp only [startRounds, zeroCounts, applyMask, State.onCircuit, List.map_map]
  rfl

theorem station_started (slots n : Nat) (s : State) :
    (startRounds slots s).station n = (s.station n).started := by
  simp only [startRounds_eq, State.station, List.getD_eq_getElem?_getD, List.getElem?_map]
  cases s.circuit.roster[n - 1]? <;> rfl

/-- The party entry of a listed station as the call-up builds it from the state before it (R94, R96). -/
def callStarted (s : State) (n : Nat) : Party :=
  { station := n
    name := (s.station n).name
    state :=
      if (s.station n).name = none then .absent
      else if (s.station n).maskPending then .masked
      else .invited
    maskedInWindow := false
    lateReported := false
    result := none }

theorem callEntry_started (slots n : Nat) (s : State) :
    callEntry (startRounds slots s) n = callStarted s n := by
  simp only [callEntry, station_started, Station.started, callStarted, Option.isNone_iff_eq_none]

/-- The pass record as the call-up leaves it, with its party built. -/
def Pass.called (p : Pass) (s : State) : Pass :=
  { p with
    party := p.stations.map (callStarted s)
    callDone := false
    windowOpen := false
    openRound := none
    closeRound := none }

theorem orderReturn_eq (s : State) :
    orderReturn s =
      if s.drive.carriage = .home ∨ s.drive.carriage = .returning then s
      else
        { s with
          drive :=
            { s.drive with
              carriage := .returning
              position := none
              returnTimer := some (s.now + Config.returnTime) } } := by
  unfold orderReturn
  split <;> simp_all [State.onDrive]

/-- The drive after the start of a pass: the step-fault count cleared, a return ordered (R40, R113). -/
def Drive.passBegun (d : Drive) (now : Moment) : Drive :=
  if d.carriage = .home ∨ d.carriage = .returning then { d with stepFaults := 0 }
  else
    { d with
      stepFaults := 0
      carriage := .returning
      position := none
      returnTimer := some (now + Config.returnTime) }

theorem passToDrive_eq (s : State) : passToDrive s = { s with drive := s.drive.passBegun s.now } := by
  rw [passToDrive, orderReturn_eq]
  simp only [Drive.passBegun, State.onDrive]
  by_cases h : s.drive.carriage = .home ∨ s.drive.carriage = .returning
  · simp [h]
  · simp [h]

/-- An entry to CALLUP with a station to call (R113). -/
theorem enterCallup_eq {p : Pass} (hp : s.sender.pass = some p)
    (hne : invitedOf (p.stations.map (callStarted s)) ≠ []) :
    enterCallup s =
      { s with
        drive := s.drive.passBegun s.now
        circuit := (startRounds p.copy.slots s).circuit
        sender :=
          { s.sender with
            circ := .callup
            pass := some (p.called s)
            tone := .callup (invitedOf (p.stations.map (callStarted s))) s.now
            signalEnds := some (s.now +
              callupTime (invitedOf (p.stations.map (callStarted s))).length) } } := by
  have hm : p.stations.map (callEntry (startRounds p.copy.slots s)) = p.stations.map (callStarted s) :=
    List.map_congr_left fun n _ => callEntry_started _ n s
  simp only [enterCallup, hp, hm, List.isEmpty_iff, if_neg hne]
  simp only [passToDrive_eq, startRounds_eq, State.onPass, State.onSender, hp, Option.map_some, Pass.called]

theorem State.breakPresent_eq (s : State) :
    s.breakPresent = decide (s.circuit.detector = .present ∨ s.circuit.detector = .ending) := by
  unfold State.breakPresent
  cases s.circuit.detector <;> rfl

/-- The station list has a station to call (R113). -/
theorem invitedOf_ne_nil {stations : List Nat}
    (h : ∃ n ∈ stations, (s.station n).name.isSome ∧ (s.station n).maskPending = false) :
    invitedOf (stations.map (callStarted s)) ≠ [] := by
  obtain ⟨n, hn, hname, hmask⟩ := h
  have hne : (s.station n).name ≠ none := by
    intro hnone
    simp [hnone] at hname
  intro hnil
  have hmem : callStarted s n ∈
      (stations.map (callStarted s)).filter (fun e => e.state == .invited) :=
    List.mem_filter.mpr ⟨List.mem_map_of_mem hn, by simp [callStarted, hne, hmask]⟩
  simp only [invitedOf, List.map_eq_nil_iff] at hnil
  simp [hnil] at hmem

/-- The start of a job with a record to be had and a station to call (R20, R52, R110, R154, R155): the state
`State.begun` spells out, with `*START` posted. -/
theorem startJob_begun {j : Job} (hr : 1 < j.passNo ∨ (j.passNo = 1 ∧ s.receipts.log.length < 16))
    (hc : ∃ n ∈ j.stations, (s.station n).name.isSome ∧ (s.station n).maskPending = false) :
    startJob j s = { s.begun j with link := s.link.posted [.start j.number j.passNo] } := by
  have hne := invitedOf_ne_nil hc
  have e := enterCallup_eq (p := freshPassRecord j s.settings.guarded)
    (s := post (.start j.number j.passNo)
      ((scanBegin j (recordStart j ((updJob j.number (fun j => { j with state := .active }) s).onQueue
        fun q => { q with missing := [] }))).onSender fun x =>
          { x with pass := some (freshPassRecord j s.settings.guarded) })) (by rfl)
  obtain h | ⟨h, hl⟩ := hr
  · have h1 : j.passNo ≠ 1 := by omega
    simp only [startJob]
    simp only [recordStart, if_neg h1, appendPass, updRecord, scanBegin, post_eq, State.onSender, State.onScan,
      State.onReceipts, updJob, State.onQueue] at e ⊢
    rw [e (by exact hne)]
    simp only [State.begun, if_neg h1, startRounds_eq, State.breakPresent_eq]
    rfl
  · have hl' : s.receipts.log.length < Config.logCap := hl
    simp only [startJob]
    simp only [recordStart, h, if_true, openRecord, scanBegin, post_eq, State.onSender, State.onScan,
      State.onReceipts, updJob, State.onQueue, hl'] at e ⊢
    rw [e (by exact hne)]
    simp only [State.begun, freshRecord, freshPass, freshPassRecord, Pass.called, h, if_true, startRounds_eq,
      State.breakPresent_eq]
    rfl

/-- A RELEASED job with every condition met starts at the end of the step (R16, R20). -/
theorem settle_begun {j : Job} (ha : s.awaits j) (hd : s.drive.drum = .locked)
    (hs : s.drive.lockedAt = some j.speed) (hl : s.drive.lamp = .ready) (hf : s.cal.state = .fresh) :
    settle s = { s.begun j with link := s.link.posted [.start j.number j.passNo] } := by
  obtain ⟨hj, hfree, hr, hc, -⟩ := ha
  have hcal : s.asksCalibration j = false := by simp [State.asksCalibration, hf]
  have hrec : s.recordAvailable j = true := by
    obtain h | ⟨-, h⟩ := hr
    · simp [State.recordAvailable, h]
    · simp [State.recordAvailable, Config.logCap, h]
  have hcauses : s.missingCauses j = [] := by
    simp [State.missingCauses, State.lockedAtSpeed, hd, hs, hl, hf, hfree, hrec]
  have hrel : s.releasedJob = some j := hj
  simp only [settle, hrel, autoCalibrate, hcal, Bool.false_eq_true, if_false, startTest, hcauses, if_true]
  exact startJob_begun hr hc

end Sys2Proof.Machine
end

