-- ==== Sys2Proof/Tests/Slice0.lean ====
section
/-! SUPPORT. Tests: what the well-formedness checks refuse, the manual's worked figures, one step of a few
commands on small states, and for each statement with hypotheses the states and operands that meet them,
clause by clause. -/

namespace Sys2Proof.Tests

open Sys2Proof Sys2Proof.Machine

/-! ### Small states -/

/-- The part after a power-up whose first line has been sent: at rest. -/
def still : State := { State.reset with link := Link.fresh .b1200 }

/-- Job 7 of two stations at 60 rpm, bound to the print. -/
def job7 : Job :=
  { number := 7
    slug := ['D', 'O', 'C', 'K']
    priority := .routine
    lines := 500
    pitch := .p100
    speed := .s60
    curve := 0
    stations := [1, 2]
    release := none
    passNo := 1
    state := .mounted
    pendingTrigger := false
    calTried := false }

/-- `still` with stations 1 and 2 defined. -/
def manned : State :=
  { still with
    circuit :=
      { still.circuit with
        roster :=
          [⟨some ['A'], false, false, 0, 0⟩, ⟨some ['B'], false, false, 0, 0⟩] ++
            List.replicate 14 Station.fresh } }

/-- With job 7 in a state, bound unless it is QUEUED. -/
def withJob (st : JobState) (s : State) : State :=
  { s with
    queue :=
      { jobs := [{ job7 with state := st }]
        load := if st = .queued then .unbound else .bound
        missing := [] } }

/-- With the drum in a state at 60 rpm and the lamp in a state. -/
def withDrive (drum : DrumState) (lamp : LampState) (s : State) : State :=
  { s with
    drive :=
      { s.drive with
        drum := drum
        target := some .s60
        lockedAt := if drum = .locked then some .s60 else none
        lamp := lamp
        warmTimer := if lamp = .warming then some 60000 else none
        lockTimer := if drum.approaching then some 20000 else none
        marked := true } }

/-- The pass of job 7, both stations joined. -/
def pass7 : Pass :=
  { freshPassRecord job7 Settings.default.guarded with
    party := [⟨1, some ['A'], .joined, false, false, none⟩, ⟨2, some ['B'], .joined, false, false, none⟩] }

/-- Job 7 ACTIVE with a pass in a circuit state, its want held, the drum locked and the lamp ready. -/
def sending (c : CircuitState) (p : Pass) : State :=
  { withJob .active (withDrive .locked .ready manned) with
    drive := { (withDrive .locked .ready manned).drive with queueWant := some .s60 }
    sender := ⟨c, some p, .silent, some 9000⟩
    scan := { still.scan with pass := some { scanContext job7 with nextLine := 5 } } }

/-- The pass of job 7 under a break, with a resume point where it is PAUSED. -/
def broken7 (pt : Option ResumePoint) : Pass :=
  { pass7 with breakReason := true, breakDeadline := some 600000, resume := pt }

/-- A line being sent. -/
def line7 : SentLine := { codes := List.replicate 1232 0, fill := false, heldRef := false, drift := false }

/-- The stages of a pass: each circuit state with a pass it can hold, before, in and after the picture. -/
def unsentStages : List (CircuitState × Pass) :=
  [(.callup, pass7), (.answer, pass7), (.paused, { pass7 with resume := some .callup })]
def midStages : List (CircuitState × Pass) :=
  [(.phasing, pass7), (.picture, { pass7 with line := some line7 }),
    (.paused, { pass7 with resume := some .rephase }), (.paused, { pass7 with resume := some .phasing })]
def sentStages : List (CircuitState × Pass) :=
  [(.ending, pass7), (.gathering, pass7), (.paused, { pass7 with resume := some .ending }),
    (.paused, { pass7 with resume := some .gathering })]

/-- The pass under a break. -/
def underBreak (p : Pass) : Pass := { p with breakReason := true, breakDeadline := some 600000 }

/-- Rounds of four slots with a slot in progress. -/
def withRounds (slot : Nat) (chars : List ReturnChar) (s : State) : State :=
  { s with
    circuit :=
      { s.circuit with
        rounds :=
          some
            { slots := 4
              round := 3
              slot := slot
              slotEnds := 250
              carrier := !chars.isEmpty
              chars := chars
              breakSeen := false } } }

/-- The record of job 7 with its first pass in progress or closed. -/
def record7 (closed : Bool) : Record :=
  { job := 7
    slug := job7.slug
    priority := .routine
    pitch := .p100
    speed := .s60
    lines := 500
    isOpen := true
    passes :=
      [{ number := 1
         stations := [1, 2]
         start := none
         close :=
          if closed then
            some
              { stamp := none
                outcome := .killed
                reason := none
                secondary := none
                counts := some ⟨3, 0, 0, 0, false⟩
                slip := .pending
                results := [] }
          else none }] }

/-- With a log and a slip queue. -/
def withLog (log : List Record) (slips : List SlipEntry) (pr : PrinterState) (s : State) : State :=
  { s with
    receipts :=
      { log := log
        slips := slips
        printer := pr
        paperPresent := pr != .paperOut
        printing := if pr = .printing then some ⟨[['x'], ['y']], 300⟩ else none } }

/-! ### The well-formedness checks -/

theorem test_word_with_space_ill_formed : (Instr.mount [['7', ' ']]).wellFormed = false := by decide
theorem test_empty_word_ill_formed : (Instr.mount [[]]).wellFormed = false := by decide
theorem test_control_character_ill_formed : (Instr.mount [['\t']]).wellFormed = false := by decide
theorem test_long_line_ill_formed : (Instr.hold [List.replicate 116 '1']).wellFormed = false := by decide
theorem test_longest_line_well_formed : (Instr.hold [List.replicate 115 '1']).wellFormed = true := by decide
theorem test_station_define_shape :
    (Instr.stationDefine [['1']]).wellFormed = false ∧
      (Instr.stationDefine [['1'], ['O', 'F', 'F']]).wellFormed = false := by decide
theorem test_mask_shape : (Instr.maskChange []).wellFormed = false := by decide
theorem test_curve_load_shape : (Instr.curveLoad [['1']]).wellFormed = false := by decide
theorem test_curve_read_shape : (Instr.curveRead [['1'], ['0']]).wellFormed = false := by decide
theorem test_cal_shape : (Instr.cal [['D', 'E', 'F', 'A', 'U', 'L', 'T']]).wellFormed = false := by decide
theorem test_clock_shape : (Instr.clockSet []).wellFormed = false := by decide
theorem test_receipt_shape : (Instr.receiptRead []).wellFormed = false := by decide
theorem test_slip_shape : (Instr.slipRequest []).wellFormed = false := by decide
theorem test_reports_shape :
    (Instr.reportsRead [['O', 'N']]).wellFormed = false ∧
      (Instr.reportsRead [['O', 'F', 'F']]).wellFormed = false := by decide
theorem test_sample_position_out_of_revolution :
    (Instr.samplePosition 1280 0).wellFormed = false ∧ (Instr.samplePosition 1279 0).wellFormed = true := by
  decide

/-! ### The manual's worked figures -/

/-- R95's example reply. -/
theorem test_mask_reply : replyText (.maskRead [4] [3, 4]) = "OK MASK CURRENT=4 PENDING=3,4".toList := by decide

/-- R5's example of an empty queue. -/
theorem test_list_reply : replyText (.list []) = "OK LIST 0".toList := by decide

set_option maxRecDepth 8000 in
/-- The example line of R175, 149 characters. -/
theorem test_status_reply :
    replyText
        (.status
          ⟨.locked, some .s90, .ready, 41, .fresh, .stepping, .picture, false, false, some 57, .ready, .good,
            some ⟨214, 52205⟩, 2, false, 14⟩) =
      ("OK STATUS DRUM=LOCKED/90 LAMP=READY TEMP=41 CAL=FRESH CARR=STEPPING CIRC=PICTURE JOB=57 " ++
        "PRN=READY BATT=GOOD CLOCK=0214/14:30:05 REP=2 OVF=0 GARBLE=14").toList := by decide

/-- The points of curve 0 as R60 lists them. -/
theorem test_curve0 :
    curve0 = [255, 239, 223, 207, 191, 175, 159, 143, 127, 111, 95, 79, 63, 47, 31, 15, 0] := by decide

/-- The call-up of one station is 2.5 s long, that of sixteen 10.0 s (R112). -/
theorem test_callup_time : callupTime 1 = 2500 ∧ callupTime 16 = 10000 := by decide

/-- The select burst of station 3 is black for 75 ms (R112). -/
theorem test_callup_burst :
    callupHz 2200 1400 [1, 3] 1999 = 2200 ∧ callupHz 2200 1400 [1, 3] 2000 = 1400 ∧
      callupHz 2200 1400 [1, 3] 2574 = 1400 ∧ callupHz 2200 1400 [1, 3] 2575 = 2200 := by decide

/-- The tolerance of 0.1% at 120 rpm is 0.5 ms, its limit included (R27). -/
theorem test_tolerance_limit :
    withinPermille 1 .s120 500500 = true ∧ withinPermille 1 .s120 500501 = false ∧
      withinPermille 1 .s120 499500 = true ∧ withinPermille 1 .s120 499499 = false := by decide

/-- The tolerance of 0.3% at 90 rpm is 2.0 ms around two thirds of a second (R27). -/
theorem test_tolerance_at_90 :
    withinPermille 3 .s90 668666 = true ∧ withinPermille 3 .s90 668667 = false := by decide

/-- The ends of the tone computation (R57, R58, R59): white is code 255 of curve 0's far end and back. -/
theorem test_tone_ends :
    normalise 3600 400 4095 = 1023 ∧ normalise 3600 400 0 = 0 ∧ toneCode curve0 0 = 255 ∧
      toneFrequency 2200 1400 0 = 2200 ∧ toneFrequency 2200 1400 255 = 1400 := by decide

/-- The fill of a station reply: `BK` in slot 1 is OK from station 2, and in slot 2 it is garbled (R100, R101). -/
theorem test_reply_of_station_2 :
    decideSlot ⟨16, 1, 1, 0, true, [.letter 1, .letter 10], false⟩ = .reply .ok ∧
      decideSlot ⟨16, 1, 2, 0, true, [.letter 1, .letter 10], false⟩ = .garbled := by decide

/-- Day 9999 is followed by day 1 (R184), and a release on day 1 is not reached on day 9999 (R14). -/
theorem test_day_wraps :
    tickClock ⟨9999, 86399⟩ = ⟨1, 0⟩ ∧ reached (some ⟨9999, 0⟩) ⟨1, 0⟩ = false := by decide

/-- The trial steps of a calibration run are 32, 16, 8, 4, 2 and 1 (R79). -/
theorem test_trial_weights :
    ([2, 3, 4, 5, 6, 7].map trialWeight) = [32, 16, 8, 4, 2, 1] := by decide

/-- A line with a word too many is the row whose owner refuses it; a name that is none is no request. -/
theorem test_line_read :
    decodeLine ("MOUNT 7 8".toList.map some) false = .mount ["7".toList, "8".toList] ∧
      decodeLine ("mount 7".toList.map some) false = .invalidLine .unknownName ∧
      decodeLine ("STATION 4 OFF".toList.map some) false = .stationOff "4".toList := by decide

set_option maxRecDepth 8000 in
/-- The slip of the manual's job 70, its pass closed PARTIAL (chapter 8, worked sequence): four of its lines. -/
theorem test_slip_of_job_70 :
    let results : List StationResult :=
      [⟨1, some "HERALD".toList, some .received, some 0⟩, ⟨2, some "COURIR".toList, some .repeatAsked, some 1⟩]
    let lines := slipLines "CENTRAL".toList false
      ⟨70, "RAIL-CRASH".toList, .urgent, .p100, .s120, 50, true, []⟩
      ⟨1, [1, 2], some ⟨214, 32400⟩, none⟩
      ⟨some ⟨214, 32444⟩, .partialReceipt, none, none, some ⟨50, 0, 0, 0, false⟩, .pending, results⟩
    lines[1]? = some "JOB 070 RAIL-CRASH  0050".toList ∧ lines[2]? = some "PASS 1 URGENT  100 120  ".toList ∧
      lines[6]? = some "02 COURIR RPTA      0001".toList ∧
      lines[8]? = some "L0050 F0000 H0000 S0000 ".toList := by decide

/-! ### The forms of words -/

theorem test_number_form : isNumber "600".toList ∧ ¬ isNumber "X".toList ∧ ¬ isNumber "-1".toList :=
  ⟨⟨by decide, by simp⟩, by simp, by simp⟩

theorem test_number_list_form : isNumberList "1,16".toList ∧ ¬ isNumberList "1,".toList := by
  simp [isNumberList, splitOn, isNumber]

theorem test_time_form : isTime "23:59:59".toList ∧ ¬ isTime "3:59:59".toList := by simp [isTime]

theorem test_name_form :
    isName 12 "ABCDEFGHIJKL".toList ∧ ¬ isName 12 "ABCDEFGHIJKLM".toList ∧ isName 10 "CUPCUPCUPX".toList ∧
      ¬ isName 10 "CUPCUPCUPCU".toList :=
  ⟨⟨by decide, by decide, List.all_eq_true.mp (by decide)⟩, fun h => absurd h.2.1 (by decide),
    ⟨by decide, by decide, List.all_eq_true.mp (by decide)⟩, fun h => absurd h.2.1 (by decide)⟩

/-! ### One step -/

theorem test_station_defined :
    (match exec (.stationDefine ["4".toList, "NAME=LYON".toList]) still with
      | .next t => (t.station 4).name
      | _ => none) = some "LYON".toList := by decide

theorem test_job_number_drawn :
    (match exec (.queue ["SLUG=CUP".toList, "LINES=50".toList, "PITCH=100".toList, "SPEED=60".toList,
        "STN=2,1".toList]) manned with
      | .next t => t.queue.jobs.map fun j => (j.number, j.stations)
      | _ => []) = [(1, [1, 2])] := by decide

theorem test_queue_checks_lines_before_stations :
    (match exec (.queue ["SLUG=CUP".toList, "LINES=49".toList, "PITCH=100".toList, "SPEED=60".toList,
        "STN=9".toList]) manned with
      | .next t => t.link.sending
      | _ => none) = some (.reply (.no .range)) := by decide

theorem test_third_good_revolution_locks :
    (match exec (.indexMark 1000000)
        { withDrive .locking .ready still with
          drive := { (withDrive .locking .ready still).drive with lockCount := 2 } } with
      | .next t => (t.drive.drum, t.drive.lockedAt, t.drive.nextPos)
      | _ => (.parked, none, none)) = (.locked, some .s60, some 0) := by decide

theorem test_second_loss_is_a_fault :
    (match exec (.indexMark 1010001)
        { withDrive .locked .ready still with
          drive := { (withDrive .locked .ready still).drive with lossCount := 1 } } with
      | .next t => (t.drive.drum, t.link.reports.length)
      | _ => (.parked, 0)) = (.coasting, 1) := by decide

theorem test_idle_step_takes_a_millisecond :
    (match step still with
      | .next t => t.now
      | _ => 0) = 1 := by decide

/-! ### Witnesses: states and operands that meet the hypotheses of the statements, clause by clause -/

/-- Job 7 locked out of nothing: the drum approaching its lock, the lamp warming. -/
def warming : State := withDrive .locking .warming manned

/-- With the day clock set. -/
def clocked (c : DayTime) (s : State) : State := { s with backup := { s.backup with clock := some c } }

/-- Job 7 RELEASED, its want held, the calibration FRESH, waiting for the drum and the lamp. -/
def waiting : State :=
  { withJob .released warming with
    drive := { warming.drive with queueWant := some .s60 }
    cal := { Calib.fresh with state := .fresh }
    queue := { (withJob .released warming).queue with missing := [.drum, .lamp] } }

/-- Job 7 RELEASED. -/
def released7 : Job := { job7 with state := .released }

theorem witness_EmptyQueueStepTicks : still.pending = [] := rfl

theorem witness_PowerlessPartTakesThreeCommands :
    { still with powered := false }.powered = false ∧ (∀ p, Instr.lineSent ≠ .powerUp p) ∧
      (∀ b, Instr.lineSent ≠ .batteryChange b) ∧ Instr.lineSent ≠ .secondEvent ∧
      Instr.lineSent ≠ .retentionLatchSet := by
  refine ⟨rfl, ?_, ?_, ?_, ?_⟩ <;> simp

theorem witness_RequestLineRoundTrip :
    (Request.mount ["7".toList]).wellFormed = true ∧
      encodeLine (.mount ["7".toList]) = some "MOUNT 7".toList := by decide

/-- `still` with the line MOUNT 7 in its buffer. -/
def typed : State := { still with link := { still.link with buffer := "MOUNT 7".toList.map some } }

theorem witness_CarriageReturnTakesRequest :
    (Request.mount ["7".toList]).wellFormed = true ∧
      encodeLine (.mount ["7".toList]) = some "MOUNT 7".toList ∧ typed.powered = true ∧
      typed.link.held = none ∧ typed.link.buffer = "MOUNT 7".toList.map some ∧ typed.link.long = false := by
  decide

theorem witness_IllFormedLinesRefused :
    (none ∈ [some 'A', none]) ∧ " A".toList.head? = some ' ' ∧ "A ".toList.getLast? = some ' ' ∧
      [' ', ' '] <:+: "A  B".toList ∧ wordOk "LOAD".toList = true ∧ (∀ w ∈ ["7".toList], wordOk w = true) ∧
      (∀ n : ReqName, n.text ≠ "LOAD".toList) ∧ still.takes := by
  refine ⟨by decide, rfl, rfl, by decide, by decide, by decide, ?_, by decide⟩
  intro n; cases n <;> decide

/-- A full buffer, a held line, a line in transmission with a reply waiting behind it. -/
def full : State := { still with link := { still.link with buffer := List.replicate 120 (some 'A') } }
def holding : State :=
  { still with
    link :=
      { still.link with
        sending := some (.report .lampReady)
        waiting := some .cal
        held := some .slipRead
        overrun := true } }
def replyWaits : State := { holding with link := { holding.link with held := none } }

set_option maxRecDepth 16000 in
theorem witness_InputBufferGathersLine :
    still.powered = true ∧ holding.link.held.isSome = true ∧ (65#8 ≠ 10#8 ∧ 65#8 ≠ 13#8) ∧
      (still.link.held = none ∧ still.link.buffer = [] ∧ still.link.long = false) ∧
      still.link.buffer.length < 120 ∧ 120 ≤ full.link.buffer.length ∧ full.link.held = none ∧
      { typed with link := { typed.link with lineTimer := some 10000 } }.link.lineTimer = some 10000 := by
  decide

theorem witness_LinesSentHeldAndTaken :
    (replyWaits.link.sending = some (.report .lampReady) ∧ replyWaits.link.held = none ∧
        replyWaits.link.waiting = some .cal ∧ replyWaits.powered = true) ∧
      (State.reset.link.sending = some (.report (.power false)) ∧ State.reset.link.held = none ∧
        State.reset.link.waiting = none ∧ State.reset.link.reports = []) ∧
      (let s : State := { State.reset with link := { State.reset.link with reports := [.lampReady] } }
       s.link.waiting = none ∧ s.link.paused = false ∧ s.link.reports = [.lampReady] ∧
          s.link.sending.isSome = true) ∧
      (holding.link.held.isSome = true ∧ holding.link.sending.isSome = true ∧
        holding.link.waiting = some .cal ∧ holding.link.held = some .slipRead) := by decide

theorem witness_RefusedRequestOnlyReplies :
    (ownerTakes (.mount []) still).2 = .no .form ∧ still.takes ∧ still.link.buffer = [] ∧
      still.link.long = false ∧ still.link.lineTimer = none := by decide

theorem witness_QueueLogAndStatusRead :
    still.takes ∧ (["X".toList] ≠ []) ∧ number? "7".toList = some 7 ∧
      (let s := withLog [record7 true] [] .ready still
       s.takes ∧ (s.receipts.log.find? fun r => r.job == 7) = some (record7 true)) ∧
      (∀ r ∈ still.receipts.log, r.job ≠ 7) := by decide

theorem witness_RosterAndMaskRead :
    still.takes ∧ number? "X".toList = none ∧ number? "17".toList = some 17 ∧ ¬ (1 ≤ 17 ∧ 17 ≤ 16) ∧
      number? "16".toList = some 16 := by decide

theorem witness_ReportsClearedAndPaused : still.takes ∧ (["X".toList] ≠ []) := by decide

set_option maxRecDepth 16000 in
theorem witness_StationDefinedAndUndefined :
    (manned.takes ∧ number? "16".toList = some 16 ∧ 16 ≤ manned.settings.guarded.slots ∧
        "LYON".toList ≠ [] ∧ "LYON".toList.length ≤ 6) ∧
      (∀ c ∈ "LYON".toList, isNameChar c = true) ∧
      (∀ k < 17, 1 ≤ k → k ≠ 16 → (manned.station k).name ≠ some "LYON".toList) ∧
      (manned.station 3).name = none ∧
      ((sending .picture pass7).takes ∧ ((sending .picture pass7).station 2).name.isSome = true ∧
        2 ∈ pass7.stations) ∧
      (manned.station 2).name.isSome = true ∧ manned.sender.pass = none ∧
      (number? "17".toList = some 17 ∧ ¬ (1 ≤ 17 ∧ 17 ≤ 16) ∧ number? "X".toList = none ∧
        manned.settings.guarded.slots < 17 ∧ (manned.station 1).name = some ['A']) :=
  ⟨by decide, List.all_eq_true.mp (by decide), by decide, by decide, by decide, by decide, by decide, by decide⟩

theorem witness_MaskChangeTaken :
    manned.takes ∧ number? "16".toList = some 16 ∧ number? "0".toList = some 0 ∧
      ∀ w, ["4".toList] = ['+' :: w] ∨ ["4".toList] = ['-' :: w] → number? w = none := by
  refine ⟨by decide, by decide, by decide, ?_⟩
  intro w h
  rcases h with h | h <;> cases h

set_option maxRecDepth 16000 in
theorem witness_SettingsWrittenAndRead :
    still.takes ∧
      ('=' ∉ "IDLE".toList ∧ (∃ p ∈ [("IDLE".toList, ([] : Text))], p.1 = [] ∨ p.2 = []) ∧
        Key.idle.text = "IDLE".toList) ∧
      ¬ isNumber "X".toList ∧ ¬ isName 12 "ABCDEFGHIJKLM".toList ∧ isName 12 "ABCDEFGHIJKL".toList ∧
      ('=' ∉ "A".toList ∧ (∀ k : Key, k.text ≠ "A".toList)) ∧
      isNumber "600".toList ∧
      (number? "600".toList = some 600 ∧ number? "601".toList = some 601 ∧
        [(Key.idle, "600".toList)].map (·.1) = [.idle] ∧
        ¬ ([Key.idle, .idle] : List Key).Nodup) ∧
      (still.settings.guarded.black = 1400 ∧ |((1800 : Nat) : Int) - 1400| = 400 ∧
        |((1799 : Nat) : Int) - 1400| < 400) ∧
      ((manned.station 2).name.isSome = true ∧ 2 ∈ List.range' 1 16 ∧ 1 < 2) ∧
      ((sending .picture pass7).takes ∧
        ∃ j ∈ (sending .picture pass7).queue.jobs, j.state = .active) ∧
      [Key.idle] ≠ [] ∧ [Key.idle].Nodup ∧ '=' ∈ "A=".toList ∧ ¬ ["A".toList, "A".toList].Nodup := by
  refine ⟨by decide, by decide, test_number_form.2.1, test_name_form.2.1, test_name_form.1, ⟨by decide, ?_⟩,
    test_number_form.1, by decide, by decide, by decide, by decide, by decide, by decide, by decide, by decide⟩
  intro k; cases k <;> decide

theorem witness_CurvesLoadedAndRead :
    (still.takes ∧ number? "3".toList = some 3 ∧ number? "4".toList = some 4 ∧ number? "X".toList = none ∧
      numbers? "1,2".toList = some [1, 2]) ∧
      ¬ isNumber "X".toList ∧ ¬ isNumberList "1,".toList ∧ 2 < [['1'], ['1'], ['1']].length :=
  ⟨by decide, test_number_form.2.1, test_number_list_form.2, by decide⟩

set_option maxRecDepth 16000 in
theorem witness_JobQueued :
    (manned.takes ∧ '=' ∉ "SLUG".toList) ∧
      (isName 10 "CUPCUPCUPX".toList ∧ ¬ isName 10 "CUPCUPCUPCU".toList) ∧
      ([1, 2] ≠ [] ∧ (∀ t ∈ some (23, 59, 59), t.1 < 100 ∧ t.2.1 < 100 ∧ t.2.2 < 100 ∧ t.1 ≤ 23) ∧
        23 < 24 ∧ 100 ∉ [60, 90, 120] ∧ 49 < 50 ∧ 11 * 100 < 1101 ∧ (3 : Nat) < (some 4).getD 0) ∧
      (isTime "23:59:59".toList ∧ ¬ isTime "3:59:59".toList) ∧
      (isNumberList "1,16".toList ∧ ¬ isNumberList "1,".toList) ∧ ¬ isNumber "-1".toList ∧
      (∃ k ∈ [3], (manned.station k).name = none) ∧ ¬ [1, 1].Nodup ∧ manned.backup.clock = none ∧
      ["A".toList].Perm ["A".toList] :=
  ⟨by decide, test_name_form.2.2, by decide, test_time_form, test_number_list_form, test_number_form.2.2,
    by decide, by decide, by decide, by decide⟩

theorem witness_DrawnNumberIsFree : still.queueBounded := by decide

theorem witness_JobMounted :
    ¬ isNumber "X".toList ∧
    (manned.takes ∧ number? "0".toList = some 0 ∧
        number? "1000".toList = some 1000 ∧ number? "999".toList = some 999 ∧
        ∀ j ∈ manned.queue.jobs, j.number ≠ 999) ∧
    (let s := withJob .queued manned
     s.takes ∧ s.resting ∧ number? "7".toList = some 7 ∧
        (s.queue.jobs.find? fun k => k.number == 7) = some { job7 with state := .queued } ∧
        s.queue.load ≠ .coverOpen ∧ s.queue.load = .unbound ∧
        s.timeReached { job7 with state := .queued } = false ∧ job7.pendingTrigger = false) ∧
     ((withJob .mounted manned).takes ∧ (withJob .mounted manned).resting ∧
        ((withJob .mounted manned).queue.jobs.find? fun k => k.number == 7) = some job7 ∧
        job7.state ≠ .queued) ∧
     (waiting.takes ∧ (waiting.queue.jobs.find? fun k => k.number == 7) = some released7 ∧
        released7.state ≠ .queued ∧ waiting.queue.load = .bound ∧ waiting.mountedJob = some released7) ∧
     (∀ x ∈ [(clocked ⟨1, 60⟩ warming, { job7 with state := .queued, release := some ⟨1, 60⟩ }, ReleaseCause.time),
         (warming, { job7 with state := .queued, pendingTrigger := true }, .pending)],
       let s : State := { x.1 with queue := ⟨[x.2.1, { job7 with number := 8 }], .bound, []⟩ }
       s.takes ∧ s.resting ∧ (s.queue.jobs.find? fun k => k.number == 7) = some x.2.1 ∧
         s.mountedJob = some { job7 with number := 8 } ∧ s.drive.lamp = .warming ∧ s.drive.drum = .locking ∧
         ((x.2.2 = .time ∧ s.timeReached x.2.1 = true) ∨
           (x.2.2 = .pending ∧ x.2.1.pendingTrigger = true ∧ x.2.1.release = none))) :=
  ⟨test_number_form.2.1, by decide, by decide, by decide, by decide, by decide⟩

theorem witness_JobTriggered :
    (let s := withJob .queued manned
     s.takes ∧ s.resting ∧ (s.queue.jobs.find? fun k => k.number == 7) = some { job7 with state := .queued }) ∧
      (let s := withJob .mounted warming
       s.takes ∧ s.resting ∧ (s.queue.jobs.find? fun k => k.number == 7) = some job7 ∧
          job7.release = none ∧ s.queue.load ≠ .coverOpen ∧ s.drive.lamp = .warming ∧
          s.drive.drum = .locking) ∧
      (let s := withJob .finished manned
       s.takes ∧ s.resting ∧
          (s.queue.jobs.find? fun k => k.number == 7) = some { job7 with state := .finished }) ∧
      (waiting.takes ∧ (waiting.queue.jobs.find? fun k => k.number == 7) = some released7) := by decide

/-- Everything ready for job 7: drum locked, lamp ready, calibration fresh. -/
def ready : State :=
  { withJob .mounted (withDrive .locked .ready manned) with
    cal := { Calib.fresh with state := .fresh, tcal := some 0 } }

theorem witness_ReadyJobStarts :
    ready.takes ∧ ready.resting ∧ number? "7".toList = some 7 ∧
      (ready.queue.jobs.find? fun k => k.number == 7) = some job7 ∧ job7.state = .mounted ∧
      job7.release = none ∧ job7.passNo = 1 ∧ ready.queue.load ≠ .coverOpen ∧
      ready.drive.drum = .locked ∧ ready.drive.lockedAt = some job7.speed ∧ ready.drive.lamp = .ready ∧
      ready.cal.state = .fresh ∧ ready.sender.circ = .free ∧ ready.receipts.log.length < 16 ∧
      ∃ k ∈ job7.stations, (ready.station k).name.isSome = true ∧ (ready.station k).maskPending = false := by
  decide

/-- The job of `sending`. -/
def active7 : Job := { job7 with state := .active }

theorem witness_HoldAndGoTaken :
    (let s := sending .phasing pass7
     s.takes ∧ (s.queue.jobs.find? fun k => k.number == 7) = some active7 ∧ s.sender.pass = some pass7) ∧
      (let p := { pass7 with holdReason := true, pausePending := true }
       let s := sending .phasing p
       s.takes ∧ s.resting ∧ (s.queue.jobs.find? fun k => k.number == 7) = some active7 ∧
          s.sender.pass = some p ∧ p.holdReason = true ∧ s.sender.circ ≠ .paused) ∧
      (let p := { pass7 with holdReason := true, breakReason := true, resume := some .rephase }
       let s := sending .paused p
       s.resting ∧ s.sender.pass = some p ∧ s.sender.circ = .paused ∧ p.breakReason = true) ∧
      (let p := { pass7 with holdReason := true, resume := some .phasing }
       let s := sending .paused p
       s.resting ∧ s.sender.circ = .paused ∧ p.breakReason = false ∧ p.resume = some .phasing) ∧
      (let p := { pass7 with holdReason := true, resume := some .gathering }
       let s := sending .paused p
       s.resting ∧ s.sender.circ = .paused ∧ p.breakReason = false ∧ p.resume = some .gathering) := by decide

set_option maxRecDepth 16000 in
theorem witness_KillTaken :
    (let s := withJob .queued manned
     s.takes ∧ s.resting ∧ (s.queue.jobs.find? fun k => k.number == 7) = some { job7 with state := .queued }) ∧
      (let s := withJob .mounted manned
       s.takes ∧ s.resting ∧ (s.queue.jobs.find? fun k => k.number == 7) = some job7 ∧
          s.queue.load ≠ .coverOpen ∧ s.drive.queueWant = none) ∧
      (let s : State :=
          { withJob .released warming with drive := { warming.drive with queueWant := some .s60 } }
       s.takes ∧ (s.queue.jobs.find? fun k => k.number == 7) = some { job7 with state := .released } ∧
          (∀ k ∈ s.queue.jobs, k.state = .released → k.number = 7) ∧ s.queue.load ≠ .coverOpen ∧
          s.drive.queueWant.isSome = true ∧ s.drive.calWant = none ∧ s.settings.idle ≠ 0) ∧
      (∀ x ∈ unsentStages ++ (midStages.map fun x => (x.1, underBreak x.2)),
        let s := sending x.1 x.2
        s.takes ∧ s.resting ∧ (s.queue.jobs.find? fun k => k.number == 7) = some active7 ∧
          s.sender.pass = some x.2 ∧ x.2.job = 7 ∧ x.2.detached = false ∧
          (s.unsent x.2 ∨ (s.midPicture x.2 ∧ x.2.breakReason = true)) ∧ s.holdsJob x.2) ∧
      (∀ x ∈ midStages,
        let s := sending x.1 x.2
        s.takes ∧ s.resting ∧ s.sender.pass = some x.2 ∧ x.2.breakReason = false ∧ s.midPicture x.2) ∧
      (∀ x ∈ sentStages, (sending x.1 x.2).sentInFull x.2) ∧
      (sending .killing pass7).sender.circ = .killing ∧
      (let s := withJob .finished manned
       s.takes ∧ s.resting ∧
          (s.queue.jobs.find? fun k => k.number == 7) = some { job7 with state := .finished }) :=
  ⟨by decide, by decide, by decide, by decide, by decide, by decide, by decide, by decide⟩

theorem witness_RepeatTaken :
    (number? "1000".toList = some 1000 ∧ manned.takes ∧
        (∀ j ∈ manned.queue.jobs, j.number ≠ 7) ∧
        ∀ w v, ["X".toList, "STN=1".toList] = [w, "STN=".toList ++ v] → ¬ (isNumber w ∧ isNumberList v)) ∧
      ((withJob .mounted manned).takes ∧ job7.state ≠ .finished) ∧
      (let s := withJob .finished warming
       s.takes ∧ s.resting ∧ number? "7".toList = some 7 ∧
          (s.queue.jobs.find? fun k => k.number == 7) = some { job7 with state := .finished } ∧ [1] ≠ [] ∧
          (∀ k ∈ [1], 1 ≤ k ∧ k ≤ 16 ∧ (s.station k).name.isSome = true) ∧ [1].Nodup ∧ job7.passNo ≤ 3 ∧
          s.queue.load ≠ .coverOpen ∧ s.drive.lamp = .warming ∧ s.drive.drum = .locking ∧
          (s.station 3).name = none ∧ ¬ [1, 1].Nodup ∧ 4 ≤ { job7 with passNo := 4 }.passNo) := by
  refine ⟨⟨by decide, by decide, by decide, ?_⟩, by decide, by decide⟩
  intro w v h hn
  cases h
  exact test_number_form.2.1 hn.1

theorem witness_CalibrationAsked :
    (sending .picture pass7).takes ∧ (sending .picture pass7).anyActive = true ∧ ["X".toList] ≠ [] ∧
      (let s : State := { still with cal := { Calib.fresh with request := true } }
       s.takes ∧ s.anyActive = false ∧ s.cal.state ≠ .running ∧ s.cal.request = true) ∧
      (warming.takes ∧ warming.anyActive = false ∧ warming.cal.state ≠ .running ∧
        warming.cal.request = false ∧ warming.drive.lamp = .warming ∧ warming.drive.target = some .s60 ∧
        warming.drive.drum = .locking ∧ warming.resting) ∧
      (let s := withDrive .locked .ready manned
       s.drive.drum = .locked ∧ s.drive.lockedAt = some .s60 ∧ s.drive.queueWant = none) ∧
      (still.takes ∧ still.anyActive = false ∧ still.cal.request = false ∧ still.drive.drum = .parked ∧
        still.drive.lamp = .off ∧ still.queue.load ≠ .coverOpen ∧ still.drive.faultHold = false ∧
        still.drive.pendingStart = false ∧
        (still.drive.spinUps.filter fun m => decide (still.now < m + 900000)) = []) ∧
      (let s : State :=
         { still with drive := { still.drive with spinUps := [0, 1, 2, 3, 4, 5], lamp := .fault }, now := 9 }
       (s.drive.spinUps.filter fun m => decide (s.now < m + 900000)) = 0 :: [1, 2, 3, 4, 5]) ∧
      ({ still with queue := { still.queue with load := .coverOpen } } : State).takes := by decide

theorem witness_ClockSet :
    still.takes ∧ time? "23:59:59".toList = some (23, 59, 59) ∧ number? "9999".toList = some 9999 := by decide

theorem witness_SlipCopyAsked :
    (¬ isNumber "X".toList ∧ number? "0".toList = some 0 ∧ number? "5".toList = some 5 ∧
        (withLog [record7 true] [] .ready still).takes ∧ (∀ r ∈ still.receipts.log, r.job ≠ 7) ∧
        ∀ e ∈ (record7 true).passes, e.number ≠ 4) ∧
      number? "7".toList = some 7 ∧ number? "1".toList = some 1 ∧
      (record7 true).passes.getLast? = (record7 true).passes.find? (fun e => e.number == 1) ∧
      (let s := withLog [record7 true] [] .ready still
       s.takes ∧ s.resting ∧ s.receipts.printer = .ready ∧ s.receipts.slips = []) ∧
      (let s := withLog [record7 false] [] .ready still
       s.takes ∧ s.resting ∧ (s.receipts.log.find? fun r => r.job == 7) = some (record7 false) ∧
          ((record7 false).passes.find? fun e => e.number == 1).any (·.close.isNone) = true) ∧
      (let s := withLog [record7 true] [⟨7, 1, 2, false⟩] .paperOut still
       s.takes ∧ s.resting ∧
          ((record7 true).passes.find? fun e => e.number == 1).any (·.close.isSome) = true ∧
          (s.receipts.slips.find? fun x => x.job == 7 && x.pass == 1) = some ⟨7, 1, 2, false⟩) ∧
      (let s := withLog [record7 true] [] .paperOut still
       s.takes ∧ s.resting ∧ (∀ x ∈ s.receipts.slips, ¬ (x.job = 7 ∧ x.pass = 1)) ∧
          s.receipts.printer ≠ .ready) :=
  ⟨⟨test_number_form.2.1, by decide⟩, by decide⟩

theorem witness_ResetRestartsPart :
    (still.takes ∧ (still.sender.pass = none → still.scan.pass = none)) ∧
      (let s := withLog [record7 false] [] .ready (sending .picture pass7)
       s.takes ∧ s.sender.pass = some pass7 ∧ pass7.outcome = none) ∧
      (let p := { pass7 with outcome := some .killed }
       (sending .killing p).takes ∧ (sending .killing p).sender.pass = some p) ∧
      (let s := withLog [record7 true] [⟨7, 1, 2, false⟩] .printing still
       s.takes ∧ s.receipts.slips = [⟨7, 1, 2, false⟩] ∧ s.receipts.printer = .printing) := by
  decide

/-- The cover open over a job 7. -/
def opened (j : Job) : State := { manned with queue := ⟨[j], .coverOpen, []⟩ }

theorem witness_CoverMoved :
    (let s : State := { still with queue := ⟨[], .coverOpen, []⟩ }
     s.powered = true ∧ s.resting ∧ s.queue.load = .coverOpen ∧ s.drive.queueWant = none ∧
        s.drive.calWant = none ∧ s.headJob = none) ∧
      (let j := { job7 with state := .queued }
       (opened j).resting ∧ (opened j).headJob = some j ∧ (opened j).timeReached j = false ∧
          j.pendingTrigger = false) ∧
      (let j := { job7 with state := .queued, pendingTrigger := true }
       let s : State := { opened j with cal := { Calib.fresh with state := .stale } }
       s.resting ∧ s.headJob = some j ∧ (s.queue.jobs.find? fun k => k.number == 7) = some j ∧
          j.release = none ∧ j.passNo = 1 ∧ s.drive.drum = .parked ∧ s.drive.lamp = .off ∧
          s.drive.pendingStart = false ∧ s.drive.faultHold = false ∧ s.cal.state = .stale ∧
          s.sender.circ = .free ∧ (s.drive.spinUps.filter fun m => decide (s.now < m + 900000)) = []) ∧
      (warming.powered = true ∧ warming.queue.load ≠ .coverOpen ∧ warming.cal.run = none ∧
        ∀ k ∈ warming.queue.jobs, k.state = .queued) ∧
      (let s : State :=
         { waiting with
           drive := { waiting.drive with calWant := some .s60 }
           cal :=
             { waiting.cal with
               state := .running
               request := true
               run := some ⟨32, .fresh, 0, 1, 0, 0, 0, none⟩ } }
       s.mountedJob = some released7 ∧ s.cal.run.isSome = true ∧ s.drive.calWant.isSome = true) ∧
      (let s := withLog [record7 true] [] .ready (withJob .finished warming)
       s.powered = true ∧ s.resting ∧ s.mountedJob = some { job7 with state := .finished } ∧
          s.drive.queueWant = none) ∧
      ((withJob .mounted warming).resting ∧ (withJob .mounted warming).mountedJob = some job7) ∧
      (let s : State :=
          { withJob .released warming with drive := { warming.drive with queueWant := some .s60 } }
       s.mountedJob = some { job7 with state := .released } ∧
          (∀ k ∈ s.queue.jobs, k.state = .released → k.number = 7) ∧ s.drive.queueWant.isSome = true ∧
          s.drive.calWant = none ∧ s.settings.idle ≠ 0) ∧
      (let s := sending .picture pass7
       s.queue.load ≠ .coverOpen ∧ s.cal.run = none ∧ s.mountedJob = some active7 ∧
          s.sender.pass = some pass7 ∧ s.sender.circ = .picture ∧ pass7.breakReason = false ∧
          s.scan.pass.any (fun x => !x.ended) = true) :=
  ⟨by decide, by decide, by decide, by decide, by decide, by decide, by decide, by decide, by decide⟩

theorem witness_PanelKeysActAsRequests :
    (let s := withJob .queued manned
     s.powered = true ∧ s.resting ∧ (s.queue.jobs.map (·.number)).Nodup ∧
        (∀ j ∈ s.queue.jobs, 1 ≤ j.number ∧ j.number ≤ 999) ∧ ∀ j ∈ s.queue.jobs, j.state = .queued) ∧
     ((sending .phasing pass7).resting ∧ (sending .phasing pass7).mountedJob = some active7) ∧
     (withJob .finished manned).mountedJob = some { job7 with state := .finished } ∧
      (let s : State := { withJob .mounted warming with cal := { Calib.fresh with state := .fresh } }
       s.resting ∧ s.mountedJob = some job7 ∧ job7.release = none ∧ s.queue.load ≠ .coverOpen ∧
          s.drive.lamp = .warming ∧ s.drive.drum = .locking ∧ s.drive.pendingStart = false ∧
          s.cal.state = .fresh ∧ s.sender.circ = .free ∧ s.receipts.log.length < 16) ∧
      (waiting.powered = true ∧ (waiting.receipts.printer = .ready → waiting.receipts.slips = []) ∧
        waiting.mountedJob = some released7 ∧ released7.state = .released ∧ waiting.waits released7 ∧
        (∀ k ∈ waiting.queue.jobs, k.state = .released → k.number = 7) ∧ waiting.queue.load ≠ .coverOpen ∧
        waiting.drive.queueWant.isSome = true ∧ waiting.drive.calWant = none ∧
        waiting.settings.idle ≠ 0) := by decide

theorem witness_CarriageAndDrumSensors :
    still.powered = true ∧ (withDrive .coasting .off still).drive.drum = .coasting ∧
      (withDrive .coasting .off still).resting ∧ (still.resting ∧ still.drive.drum = .parked) ∧
      (let s : State := { still with drive := { still.drive with carriage := .returning, returnTimer := some 3000 } }
       s.powered = true ∧ s.resting ∧ s.sender.pass = none ∧ s.drive.returnTimer = some 3000) := by decide

theorem witness_DriveTimersExpire :
    (let s : State :=
        { withJob .released warming with
          drive := { warming.drive with queueWant := some .s60 }
          queue := { (withJob .released warming).queue with missing := [.drum, .lamp, .cal] } }
     s.powered = true ∧ (s.receipts.printer = .ready → s.receipts.slips = []) ∧
        s.drive.lockTimer = some 20000 ∧ s.drive.drum.approaching = true ∧ s.sender.pass = none ∧
        s.cal.request = false ∧ s.cal.run = none ∧ s.releasedJob = some { job7 with state := .released } ∧
        s.drive.queueWant = some .s60 ∧ s.drive.pendingStart = false ∧
        s.queue.missing = s.missingCauses { job7 with state := .released }) ∧
      (let s : State := { still with drive := { still.drive with idleTimer := some 120000 } }
       s.drive.idleTimer = some 120000 ∧ s.drive.queueWant = none ∧ s.drive.calWant = none) ∧
      (let s : State := { still with drive := { still.drive with spinUps := [0] } }
       s.resting ∧ s.drive.spinUps = [0] ∧ s.drive.pendingStart = false) ∧
      (let s : State :=
          { still with
            drive :=
              { still.drive with
                spinUps := [0, 1, 2, 3, 4, 5]
                pendingStart := true
                calWant := some .s60 } }
       s.resting ∧ s.drive.spinUps = 0 :: [1, 2, 3, 4, 5] ∧ s.drive.pendingStart = true ∧
          s.queue.load ≠ .coverOpen ∧ s.drive.faultHold = false ∧ s.cal.state ≠ .running ∧
          s.drive.queueWant = none ∧ s.drive.calWant = some .s60 ∧ s.drive.drum = .parked ∧
          [1, 2, 3, 4, 5].length < 6 ∧ ∀ x ∈ [1, 2, 3, 4, 5], x < max s.now (0 + 900000)) ∧
      (let s : State :=
          { waiting with
            drive :=
              { waiting.drive with
                drum := .parked
                target := none
                lockTimer := none
                spinUps := [0, 1, 2, 3, 4, 5]
                pendingStart := true }
            queue := { waiting.queue with missing := [.budget, .lamp] } }
       (s.receipts.printer = .ready → s.receipts.slips = []) ∧ s.releasedJob = some released7 ∧
          s.drive.queueWant = some .s60 ∧ s.waits released7 ∧ s.drive.pendingStart = true ∧
          s.queue.load ≠ .coverOpen ∧ s.drive.faultHold = false ∧ s.cal.state ≠ .running ∧
          s.drive.drum = .parked) := by decide

theorem witness_LampAndTemperature :
    (∀ n ∈ [1, 2],
      let j := { released7 with passNo := n }
      let s : State :=
        { waiting with
          drive := { waiting.drive with drum := .locked, lockedAt := some .s60, lockTimer := none }
          queue := { waiting.queue with jobs := [j], missing := [.lamp] } }
      s.powered = true ∧ s.awaits j ∧ s.drive.drum = .locked ∧ s.drive.lockedAt = some j.speed ∧
        s.cal.state = .fresh ∧ s.drive.lamp = .warming ∧ s.drive.warmTimer = some 60000) ∧
      (warming.powered = true ∧ warming.resting ∧ warming.drive.lamp = .warming ∧
        warming.drive.warmTimer = some 60000) ∧
      (warming.sender.pass = none ∧ warming.cal.run = none) := by decide

theorem witness_ApproachMeasured :
    (let s : State :=
        { waiting with
          drive := { waiting.drive with lamp := .ready, warmTimer := none, lockCount := 2 }
          queue := { waiting.queue with missing := [.drum] } }
     s.powered = true ∧ s.awaits released7 ∧ s.drive.drum = .locking ∧ s.drive.marked = true ∧
        s.drive.target = some .s60 ∧ s.drive.queueWant = some .s60 ∧ s.drive.lockCount = 2 ∧
        s.drive.lamp = .ready ∧ s.cal.state = .fresh ∧ s.cal.run = none ∧ s.cal.request = false ∧
        s.sender.pass = none ∧ s.scan.pass = none) ∧
      (warming.powered = true ∧ warming.resting ∧ warming.sender.pass = none ∧ warming.scan.pass = none ∧
        warming.cal.run = none ∧ warming.cal.request = false ∧ warming.drive.target = some .s60) ∧
      (let s : State := { warming with drive := { warming.drive with marked := false } }
       s.resting ∧ s.drive.marked = false ∧ s.drive.drum = .locking) ∧
      ((withDrive .spinningUp .warming still).drive.marked = true ∧
        (withDrive .spinningUp .warming still).drive.drum = .spinningUp) ∧
      (warming.drive.marked = true ∧ warming.drive.drum = .locking ∧ ¬ withinError 1 .s60 1001001 ∧
        withinError 20 .s60 1020000 ∧ ¬ withinError 20 .s60 1020001 ∧ withinError 1 .s60 1001000 ∧
        warming.drive.lockCount + 1 < 3) ∧
      (let s : State := { warming with drive := { warming.drive with lockCount := 2, calWant := some .s90 } }
       s.resting ∧ s.drive.lockCount = 2 ∧ s.drive.queueWant = none ∧ s.drive.calWant = some .s90 ∧
          Speed.s90 ≠ .s60 ∧ s.queue.load ≠ .coverOpen ∧ s.drive.faultHold = false ∧
          s.cal.state ≠ .running) := by decide

/-- The drum LOCKED at 60 rpm, the lamp ready, no pass. -/
def locked : State := withDrive .locked .ready still

theorem witness_LockedRevolutionJudged :
    (locked.powered = true ∧ locked.resting ∧ locked.sender.pass = none ∧ locked.scan.pass = none ∧
        locked.cal.run = none ∧ locked.cal.request = false ∧ locked.drive.drum = .locked ∧
        locked.drive.lockedAt = some .s60) ∧
      withinError 10 .s60 1010000 ∧ ¬ withinError 10 .s60 1010001 ∧ locked.drive.lossCount = 0 ∧
      (let s : State := { locked with drive := { locked.drive with lossCount := 1 } }
       s.resting ∧ s.drive.lossCount = 1 ∧ s.drive.calWant = none) := by decide

/-- `locked` with the calibration want held and a run in progress or asked for. -/
def calibrating (r : Option CalRun) : State :=
  { locked with
    drive := { locked.drive with calWant := some .s60 }
    cal := { Calib.fresh with request := true, run := r, state := if r.isSome then .running else .none } }

/-- A run at a counted revolution with a spoiled count. -/
def run (counted spoiled : Nat) : CalRun := ⟨32, .none, 32, counted, spoiled, 0, 0, some (3600, 400)⟩

theorem witness_CalibrationRunStepped :
    (let s : State :=
        { withJob .released (withDrive .locked .ready manned) with
          drive := { (withDrive .locked .ready manned).drive with queueWant := some .s60, calWant := some .s60 }
          cal := (calibrating (some (run 8 0))).cal
          queue := { (withJob .released manned).queue with missing := [.cal] } }
     s.powered = true ∧ s.awaits released7 ∧ s.sender.pass = none ∧ s.scan.pass = none ∧
        s.drive.drum = .locked ∧ s.drive.lockedAt = some .s60 ∧ s.drive.queueWant = some .s60 ∧
        s.drive.lamp = .ready ∧ s.cal.run = some (run 8 0) ∧ (run 8 0).means = some (3600, 400)) ∧
    (let s := calibrating none
     s.powered = true ∧ s.resting ∧ s.sender.pass = none ∧ s.scan.pass = none ∧ s.drive.drum = .locked ∧
        s.drive.lockedAt = some .s60 ∧ s.drive.lamp = .ready ∧ s.drive.lossCount = 0 ∧
        s.drive.queueWant = none ∧ s.drive.calWant.isSome = true ∧ s.settings.idle ≠ 0 ∧
        s.cal.run = none ∧ s.cal.request = true ∧ s.anyActive = false ∧ s.cal.state ≠ .running) ∧
     withinError 3 .s60 1003000 ∧ ¬ withinError 3 .s60 1003001 ∧ (run 1 0).counted = 1 ∧
     (∀ n ∈ [2, 7], (run n 0).means = some (3600, 400) ∧ (calibrating (some (run n 0))).resting) ∧
     (run 8 0).counted = 8 ∧ (run 2 6).spoiled < 7 ∧ (run 2 7).spoiled = 7 := by decide

theorem witness_PhasingRevolutionEnds :
    let s := sending .phasing { pass7 with lastPhasing := true, phaseCount := 19 }
    s.powered = true ∧ s.resting ∧ s.drive.drum = .locked ∧ s.drive.lockedAt = some .s60 ∧
      s.drive.lossCount = 0 ∧ s.cal.run = none ∧ s.cal.request = false ∧ s.sender.circ = .phasing ∧
      s.sender.pass = some { pass7 with lastPhasing := true, phaseCount := 19 } ∧
      withinError 3 .s60 1000000 ∧ pass7.copy.phase ≤ 19 + 1 ∧ pass7.pausePending = false := by decide

set_option maxRecDepth 16000 in
theorem witness_PictureLineCompleted :
    let p := { pass7 with line := some line7 }
    let s := sending .picture p
    (s.powered = true ∧ s.resting ∧ s.drive.drum = .locked ∧ s.drive.lockedAt = some .s60 ∧
      s.drive.lossCount = 0 ∧ s.cal.run = none ∧ s.cal.request = false ∧ s.sender.circ = .picture ∧
      s.sender.pass = some p ∧ p.consecFills < 4 ∧ p.sent + 1 < p.lines ∧ p.pausePending = false) ∧
      { p with sent := 498 }.sent + 1 < p.lines ∧ { p with sent := 499 }.sent + 1 = p.lines ∧
      { p with pausePending := true }.pausePending = true ∧ { p with consecFills := 3 }.consecFills < 4 ∧
      (let q := underBreak { p with consecFills := 4, pausePending := true }
       q.consecFills = 4 ∧ q.breakReason = true ∧ (sending .picture q).holdsJob q) ∧
      { p with consecFills := 4 }.consecFills = 4 ∧ p.breakReason = false := by decide

set_option maxRecDepth 16000 in
/-- A line being scanned. -/
def scanned (codes : Nat) : ScanLine := ⟨5, List.replicate codes 0, false, false, 57600, 6400⟩

/-- A pass in PHASING with a phasing count and the designation of the last revolution, the carriage HOME. -/
def aligning (p : Pass) (count : Nat) (last : Bool) : State :=
  let q := { p with phaseCount := count, lastPhasing := last }
  { sending .phasing q with
    drive := { (sending .phasing q).drive with carriage := .home }
    scan := { still.scan with pass := some (scanContext job7) } }

set_option maxRecDepth 16000 in
theorem witness_LinesScannedAtIndexMark :
    (let s := sending .picture { pass7 with line := some line7 }
     s.powered = true ∧ s.resting ∧ s.drive.drum = .locked ∧ s.drive.lockedAt = some .s60 ∧
       withinError 10 .s60 1000000 ∧ s.cal.run = none ∧ s.cal.request = false ∧
       s.scan.pass = some { scanContext job7 with nextLine := 5 } ∧ s.drive.carriage ≠ .home ∧
       s.scan.store.length ≤ 1) ∧
      (scanned 1232).codes.length = 1232 ∧
      (∀ x ∈ [(18, false), (19, true)],
        let s := aligning pass7 x.1 x.2
        s.powered = true ∧ s.resting ∧ s.drive.drum = .locked ∧ s.drive.lockedAt = some .s60 ∧
          withinError 3 .s60 1000000 ∧ s.cal.run = none ∧ s.cal.request = false ∧ s.sender.circ = .phasing ∧
          s.scan.pass = some (scanContext job7) ∧ (scanContext job7).nextLine = 1 ∧
          s.drive.carriage = .home ∧ pass7.copy.phase ≤ x.1 + 1 + 1) ∧
      (let q := { pass7 with rephase := true, phaseCount := 6 }
       (sending .phasing q).resting ∧ q.copy.rephase ≤ 6 + 1 + 1 ∧
          (sending .phasing q).scan.pass = some { scanContext job7 with nextLine := 5 }) := by decide

/-- `sending` with a line being scanned and the next position. -/
def scanning (c : CircuitState) (p : Pass) (l : ScanLine) (q : Nat) : State :=
  { sending c p with
    drive := { (sending c p).drive with nextPos := some q }
    scan := { still.scan with pass := some { scanContext job7 with line := some l } } }

/-- `scanning` with the twelfth invalid reference in a row to come. -/
def unreferenced (c : CircuitState) (p : Pass) : State :=
  { scanning c p (scanned 0) 5 with
    scan :=
      { still.scan with
        pass := some { scanContext job7 with line := some ⟨5, [], false, false, 0, 0⟩, invalid := 11 } } }

/-- `scanning` at position 48 with the step not confirmed, after two step faults. -/
def unstepped (c : CircuitState) (p : Pass) : State :=
  { scanning c p (scanned 0) 48 with
    drive := { (scanning c p (scanned 0) 48).drive with stepWaiting := true, stepFaults := 2 } }

set_option maxRecDepth 16000 in
theorem witness_SamplesRead :
    (let s := scanning .phasing pass7 (scanned 0) 32
     s.powered = true ∧ s.resting ∧ s.drive.nextPos = some 32 ∧ s.drive.stepWaiting = false ∧
        s.sender.circ ≠ .picture ∧
        s.scan.pass = some { scanContext job7 with line := some (scanned 0) } ∧
        (scanContext job7).ended = false ∧ (scanContext job7).failed = false ∧
        2000 ≤ (scanned 0).whiteSum / 16 ∧ (scanned 0).blackSum / 16 + 1024 ≤ (scanned 0).whiteSum / 16 ∧
        (scanContext job7).invalid < 11 ∧ (scanned 1231).codes.length = 1279 - 48) ∧
      (∀ x ∈ midStages,
        let s := unreferenced x.1 x.2
        s.powered = true ∧ s.resting ∧ s.drive.nextPos = some 5 ∧ s.sender.pass = some x.2 ∧
          s.midPicture x.2 ∧ x.2.breakReason = false ∧
          (∃ c, s.scan.pass = some c ∧ c.ended = false ∧ c.failed = false ∧ c.invalid = 11 ∧
            ∃ l, c.line = some l ∧ ¬ 2000 ≤ l.whiteSum / 16)) ∧
      (∀ x ∈ midStages, (unreferenced x.1 (underBreak x.2)).holdsJob (underBreak x.2)) ∧
      (∀ x ∈ [(CircuitState.phasing, pass7), (.picture, pass7), (.paused, { pass7 with resume := some .rephase })],
        let s := unstepped x.1 x.2
        s.powered = true ∧ s.resting ∧ s.drive.nextPos = some 48 ∧ s.drive.stepWaiting = true ∧
          s.sender.pass = some x.2 ∧ s.midPicture x.2 ∧ x.2.line = none ∧ x.2.breakReason = false ∧
          s.drive.stepFaults = 2 ∧ s.scan.pass = some { scanContext job7 with line := some (scanned 0) } ∧
          (unstepped x.1 (underBreak x.2)).holdsJob (underBreak x.2)) := by
  refine ⟨by decide, ?_, by decide, by decide⟩
  intro x h
  fin_cases h <;>
    exact ⟨by decide, by decide, by decide, by decide, by decide, by decide, _, rfl, rfl, rfl, rfl, _, rfl,
      by decide⟩

/-- The record of line 1. -/
def stored : LineRecord := ⟨7, 1, List.replicate 1232 9, true, false⟩

set_option maxRecDepth 16000 in
theorem witness_TonesAtSamplePositions :
    (let s := scanning .phasing pass7 (scanned 0) 47
     s.powered = true ∧ s.resting ∧ s.drive.nextPos = some 47 ∧ s.drive.stepWaiting = false ∧
        s.scan.pass.all (fun c => !c.failed && decide (c.invalid < 11)) = true ∧
        s.sender.pass = some pass7 ∧ s.sender.circ = .phasing) ∧
     ((scanning .picture pass7 (scanned 0) 47).sender.circ = .picture) ∧
     (scanning .picture { pass7 with line := some line7 } (scanned 0) 48).sender.circ = .picture ∧
      (let s : State :=
          { scanning .picture pass7 (scanned 0) 48 with
            scan := { (scanning .picture pass7 (scanned 0) 48).scan with store := [stored] } }
       s.resting ∧ pass7.line = none ∧ s.scan.store = [stored] ∧ stored.line = pass7.sent + 1) ∧
      (∀ r ∈ (scanning .picture pass7 (scanned 0) 48).scan.store.head?, r.line ≠ pass7.sent + 1) := by decide

theorem witness_ToneComputation :
    (400 + 1024 ≤ 3600 ∧ 3600 ≤ 4095) ∧ 0 + 1024 ≤ 1024 ∧ curve0.length = 17 ∧ 1023 ≤ 1023 ∧ 255 ≤ 255 := by
  decide

theorem witness_SlotRecordDecided :
    still.circuit.rounds = none ∧ (withRounds 1 [] manned).circuit.rounds.isSome = true ∧
      (let r : Rounds := ⟨4, 1, 1, 0, true, [.letter 1, .letter 10], false⟩
       r.breakSeen = false ∧ r.chars = [.letter 1, .letter 10] ∧ (1 : Fin 26).val = r.slot ∧
          (((10 : Fin 26).val : Nat), ReplyKind.ok) ∈
            [(17, .ready), (10, .ok), (13, .noise), (18, .stop), (2, .received), (16, ReplyKind.repeatPass)]) ∧
      (⟨4, 1, 1, 0, true, [], false⟩ : Rounds).carrier = true := by decide

/-- Job 7 in a circuit state with rounds, its two stations in party states. -/
def answering (c : CircuitState) (a b : PartyState) (slot : Nat) (chars : List ReturnChar) : State :=
  withRounds slot chars <|
    sending c
      { pass7 with
        windowOpen := true
        openRound := some 2
        closeRound := some 3
        callDone := true
        party := [⟨1, some ['A'], a, false, false, none⟩, ⟨2, some ['B'], b, false, false, none⟩] }

theorem witness_SlotEnds :
    (let s := answering .answer .invited .invited 2 []
     s.powered = true ∧ s.resting ∧ s.circuit.rounds.any (fun r => decide (r.slot + 1 < r.slots)) = true ∧
        s.circuit.rounds.map decideSlot = some .empty) ∧
      (let s := answering .answer .invited .invited 1 [.letter 1, .letter 17]
       s.resting ∧ s.circuit.rounds.map decideSlot = some (.reply .ready) ∧ s.sender.circ = .answer) ∧
      (∀ c ∈ [CircuitState.answer, .phasing, .picture, .paused],
        (let s := answering c .joined .joined 1 [.letter 1, .letter 10]
         s.resting ∧ s.circuit.rounds.map decideSlot = some (.reply .ok) ∧ s.sender.circ = c) ∧
        (let s := answering c .joined .joined 1 [.letter 1, .letter 13]
         s.resting ∧ s.circuit.rounds.map decideSlot = some (.reply .noise)) ∧
        (let s := answering c .joined .joined 1 [.letter 1, .letter 18]
         s.resting ∧ s.circuit.rounds.map decideSlot = some (.reply .stop))) ∧
      (∀ c ∈ [CircuitState.phasing, .picture],
        let s := answering c .absent .joined 1 [.letter 1, .letter 18]
        s.resting ∧ s.circuit.rounds.map decideSlot = some (.reply .stop) ∧
          ∀ p, s.sender.pass = some p → s.midPicture p ∧ p.breakReason = false ∧ s.holdsJob (underBreak p) ∧
            ¬ ∃ o ∈ p.party, o.station ≠ 2 ∧ o.state = .joined) ∧
      (∀ c ∈ [CircuitState.ending, .gathering],
        (let s := answering c .joined .joined 1 [.letter 1, .letter 2]
         s.resting ∧ s.circuit.rounds.map decideSlot = some (.reply .received) ∧ s.sender.circ = c) ∧
        (let s := answering c .joined .joined 1 [.letter 1, .letter 16]
         s.resting ∧ s.circuit.rounds.map decideSlot = some (.reply .repeatPass))) ∧
      (∀ c ∈ [CircuitState.phasing, .picture, .ending, .gathering, .killing],
        let s := answering c .joined .absent 1 [.letter 1, .letter 17]
        s.resting ∧ s.circuit.rounds.map decideSlot = some (.reply .ready) ∧ s.sender.circ = c) := by
  refine ⟨by decide, by decide, by decide, ?_, by decide, by decide⟩
  intro c hc
  fin_cases hc <;>
    exact ⟨by decide, by decide, by rintro p ⟨⟩; exact ⟨by decide, by decide, by decide, by decide⟩⟩

/-- Every station newly masked by a change that waits for the round end. -/
def newlyMasked (s : State) : State :=
  { s with circuit := { s.circuit with roster := s.circuit.roster.map fun e => { e with maskPending := true } } }

/-- Every station with a silence count. -/
def hushed (n : Nat) (s : State) : State :=
  { s with circuit := { s.circuit with roster := s.circuit.roster.map fun e => { e with silence := n } } }

theorem witness_RoundEnds :
    (∀ c ∈ [CircuitState.callup, .answer, .phasing, .picture, .paused, .ending, .gathering, .killing],
      let s := answering c .joined .joined 3 []
      s.powered = true ∧ s.resting ∧ s.circuit.rounds.any (fun r => r.slot + 1 == r.slots) = true ∧
        s.circuit.rounds.map decideSlot = some .empty ∧ s.sender.circ = c ∧ s.circuit.roster.length = 16 ∧
        ∀ p, s.sender.pass = some p → (∀ e ∈ p.party, 1 ≤ e.station ∧ e.station ≤ 16) ∧
          (p.party.map (·.station)).Pairwise (· < ·) ∧ p.callDone = true ∧ s.holdsJob p) ∧
      (let s := newlyMasked (answering .answer .joined .invited 3 [])
       (s.station 1).maskPending = true ∧ (s.station 1).masked = false ∧ (s.station 2).maskPending = true) ∧
      (let s := answering .answer .joined .invited 3 []
       s.sender.pass.any (fun p => p.windowOpen && decide (p.closeRound.getD 0 ≤ 3)) = true) ∧
      (let s := answering .answer .invited (.dropped .stop 0) 3 []
       s.resting ∧ s.sender.pass.any (fun p => p.party.all fun e => e.state != .joined) = true) ∧
      (let s := answering .answer .invited .absent 3 []
       s.resting ∧ s.sender.pass.any (fun p => p.party.all fun e => e.state != .joined) = true) ∧
      (let s := answering .gathering .received .absent 3 []
       s.resting ∧ s.sender.circ = .gathering ∧ { pass7 with gatherCount := 2 }.gatherCount + 1 = pass7.copy.gather ∧
          pass7.gatherCount + 1 < pass7.copy.gather ∧ s.circuit.detector = .clear) ∧
      (∀ c ∈ [CircuitState.phasing, .picture],
        let p :=
          { pass7 with
            party :=
              [⟨1, some ['A'], .joined, false, false, some ⟨.empty, false⟩⟩,
                ⟨2, some ['B'], .joined, false, false, some ⟨.reply .ok, false⟩⟩] }
        let s := hushed 5 (withRounds 3 [] (sending c p))
        s.powered = true ∧ s.resting ∧ s.circuit.roster.length = 16 ∧ s.sender.circ = c ∧
          p.copy.silence = (s.station 1).silence + 1) ∧
      (∀ x ∈ [(CircuitState.callup, pass7), (.paused, { pass7 with resume := some .callup })],
        let s := withRounds 3 [] (sending x.1 x.2)
        s.powered = true ∧ s.resting ∧ s.circuit.rounds.any (fun r => r.slot + 1 == r.slots) = true ∧
          s.circuit.roster.length = 16 ∧ s.sender.pass = some x.2 ∧ x.2.callDone = false ∧
          ¬ s.midPicture x.2) := by
  refine ⟨?_, by decide, by decide, by decide, by decide, by decide, by decide, by decide⟩
  intro c hc
  fin_cases hc <;>
    exact ⟨by decide, by decide, by decide, by decide, by decide, by decide,
      by rintro p ⟨⟩; exact ⟨by decide, by decide, by decide, by decide⟩⟩

/-- A break about to be declared, or about to be over. -/
def breaking (d : DetectorState) (s : State) : State :=
  { s with circuit := { s.circuit with detector := d, armingTimer := some 300, endingTimer := some 2000 } }

set_option maxRecDepth 16000 in
theorem witness_BreakDetected :
    (let s := breaking .arming still
     s.powered = true ∧ s.resting ∧ s.sender.pass = none ∧ s.circuit.detector = .arming ∧
        s.circuit.armingTimer = some 300) ∧
      (let s := breaking .ending { still with sender := { Sender.fresh with circ := .broken } }
       s.resting ∧ s.sender.pass = none ∧ s.circuit.detector = .ending ∧ s.circuit.endingTimer = some 2000) ∧
      (∀ x ∈ unsentStages ++ midStages ++ sentStages,
        let s := breaking .arming (sending x.1 x.2)
        s.resting ∧ s.sender.pass = some x.2 ∧ s.sender.circ = x.1) ∧
      pass7.line = none ∧ pass7.pausePending = false ∧
      (let p := { pass7 with outcome := some .killed }
       (breaking .arming (sending .killing p)).resting ∧ (breaking .arming (sending .killing p)).holdsJob p) := by
  decide

/-- The break at its end during a pass. -/
def ending (c : CircuitState) (p : Pass) : State := breaking .ending (sending c p)

set_option maxRecDepth 16000 in
theorem witness_PassGoesOn :
    (∀ x ∈ midStages ++ sentStages ++ unsentStages,
      let s := ending x.1 (underBreak x.2)
      s.powered = true ∧ s.resting ∧ s.sender.pass = some (underBreak x.2) ∧ s.circuit.detector = .ending ∧
        s.circuit.endingTimer = some 2000 ∧ s.sender.circ = x.1 ∧ x.2.holdReason = false) ∧
      { pass7 with holdReason := true }.holdReason = true ∧
      (∀ x, { ending .paused pass7 with scan := { still.scan with pass := some { scanContext job7 with ended := true } } }.scan.pass =
        some x → x.ended = true) ∧
      ((manned.station 1).name ≠ none ∧ (manned.station 1).maskPending = false ∧ 1 ∈ pass7.stations) ∧
      (let p := broken7 (some .callup)
       let s := newlyMasked (ending .paused p)
       s.resting ∧ s.holdsJob p ∧ ∀ n ∈ p.stations, (s.station n).maskPending = true) ∧
      (∀ x ∈ [(CircuitState.paused, { pass7 with resume := some ResumePoint.rephase }),
          (.paused, { pass7 with resume := some .phasing }), (.paused, broken7 (some .callup)),
          (.answer, pass7), (.answer, { pass7 with windowOpen := true })],
        let s := sending x.1 x.2
        s.powered = true ∧ s.resting ∧ s.drive.drum = .locked ∧ s.drive.lockedAt = some .s60 ∧
          s.drive.lossCount = 0 ∧ s.cal.run = none ∧ s.cal.request = false ∧ s.sender.pass = some x.2 ∧
          s.sender.circ = x.1) ∧
      (∃ e ∈ pass7.party, e.state = .joined) ∧ pass7.windowOpen = false := by
  refine ⟨by decide, by decide, ?_, by decide, by decide, by decide, by decide, by decide⟩
  rintro x ⟨⟩
  rfl

set_option maxRecDepth 16000 in
theorem witness_SignalsAndDeadlinesEnd :
    (let s := sending .callup pass7
     s.powered = true ∧ s.sender.signalEnds = some 9000 ∧ s.sender.pass = some pass7 ∧
        s.sender.circ = .callup) ∧
     (sending .ending pass7).sender.circ = .ending ∧
      (let p := { pass7 with resume := some .rephase, holdReason := true, holdDeadline := some 300000 }
       let s := sending .paused p
       s.resting ∧ s.sender.pass = some p ∧ s.midPicture p ∧ p.holdDeadline = some 300000 ∧
          p.breakReason = false) ∧
      (∀ x ∈ unsentStages ++ midStages ++ sentStages,
        let p := underBreak x.2
        let s := sending x.1 p
        s.powered = true ∧ s.resting ∧ s.sender.pass = some p ∧
          (s.unsent p ∨ s.midPicture p ∨ s.sentInFull p) ∧ p.breakReason = true ∧
          p.breakDeadline = some 600000 ∧ s.holdsJob p) := by decide

/-- Job 7 in the kill signal, with an outcome decided. -/
def killing (o : PassOutcome) : State :=
  withLog [record7 false] [] .paperOut
    { sending .killing { pass7 with outcome := some o } with
      drive := { (sending .killing pass7).drive with queueWant := some .s60 }
      scan := { still.scan with pass := some { scanContext job7 with ended := true } } }

theorem witness_PassClosed :
    ∀ o ∈ [PassOutcome.killed, .failed],
      (killing o).powered = true ∧ (killing o).releasedJob = none ∧
        (killing o).receipts.printer = .paperOut ∧ (killing o).sender.circ = .killing ∧
        (killing o).sender.signalEnds = some 9000 ∧
        (killing o).sender.pass = some { pass7 with outcome := some o } ∧ pass7.detached = false ∧
        (killing o).scan.pass = some { scanContext job7 with ended := true } ∧
        (killing o).drive.queueWant.isSome = true ∧ (killing o).drive.calWant = none ∧
        (killing o).settings.idle ≠ 0 ∧
        ((killing o).queue.jobs.find? fun j => j.number == 7).isSome = true ∧
        (∀ j ∈ (killing o).queue.jobs, j.number = 7 → j.state = .active) ∧
        (killing o).queue.load ≠ .coverOpen := by decide

set_option maxRecDepth 16000 in
theorem witness_FailureTaken :
    (∀ x ∈ unsentStages ++ midStages ++ sentStages,
      let s := sending x.1 x.2
      s.powered = true ∧ s.resting ∧ s.sender.pass = some x.2 ∧ s.cal.run = none ∧ s.drive.lamp = .ready ∧
        s.settings.idle ≠ 0 ∧ s.holdsJob x.2 ∧ x.2.breakReason = false) ∧
      (∀ x ∈ unsentStages, (sending x.1 x.2).unsent x.2) ∧
      (∀ x ∈ midStages,
        (sending x.1 x.2).midPicture x.2 ∧ (sending x.1 (underBreak x.2)).midPicture (underBreak x.2) ∧
          (sending x.1 (underBreak x.2)).holdsJob (underBreak x.2)) ∧
      (∀ x ∈ sentStages, (sending x.1 x.2).sentInFull x.2) := by decide

theorem witness_SlipsPrinted :
    (let s := withLog [record7 true] [⟨7, 1, 2, false⟩] .printing still
     s.powered = true ∧ s.releasedJob = none ∧ s.receipts.printer = .printing ∧
        s.receipts.printing = some ⟨[['x'], ['y']], 300⟩ ∧ s.receipts.slips = ⟨7, 1, 2, false⟩ :: []) ∧
     (⟨[['y']], 600⟩ : Printing).rest = [['y']] ∧ 1 < (⟨7, 1, 2, false⟩ : SlipEntry).copies ∧
     (⟨7, 1, 1, false⟩ : SlipEntry).copies ≤ 1 ∧
     (withLog [] [] .ready still).receipts.printer = .ready ∧
     (withLog [record7 true] [⟨7, 1, 2, false⟩] .paperOut still).receipts.printer = .paperOut ∧
     (withLog [] [] .paperOut still).receipts.slips = [] := by decide

theorem witness_SecondPasses :
    still.backup.clock = none ∧ (clocked ⟨9999, 86399⟩ still).backup.clock = some ⟨9999, 86399⟩ ∧
      { clocked ⟨1, 0⟩ still with powered := false }.powered = false ∧
      ((clocked ⟨1, 0⟩ still).powered = true ∧ (clocked ⟨1, 0⟩ still).resting ∧
        (clocked ⟨1, 0⟩ still).mountedJob = none) ∧
      (let j := { job7 with release := some ⟨1, 60⟩ }
       let s : State :=
          { clocked ⟨1, 59⟩ warming with
            queue := ⟨[j], .bound, []⟩
            cal := { Calib.fresh with state := .fresh } }
       s.powered = true ∧ s.resting ∧ s.mountedJob = some j ∧ j.state = .mounted ∧
          (s.queue.jobs.find? fun k => k.number == j.number) = some j ∧ j.release = some ⟨1, 60⟩ ∧
          reached (some ⟨1, 60⟩) ⟨1, 60⟩ = true ∧ s.queue.load ≠ .coverOpen ∧ s.drive.lamp = .warming ∧
          s.drive.drum = .locking ∧ s.drive.pendingStart = false ∧ s.cal.state = .fresh ∧
          s.sender.circ = .free ∧ s.receipts.log.length < 16) := by decide

theorem witness_SupplyFailsAndReturns :
    { still with powered := false }.powered = false ∧ still.powered = true ∧ still.backup.latch = false ∧
      { still.backup with latch := true }.latch = true ∧ still.backup.battery ≠ .failed ∧
      (∃ r ∈ (withLog [record7 false] [] .ready still).receipts.log, r.isOpen = true ∧
        ∀ e ∈ r.passes, e.close = none) ∧
      (let s := setSlip 7 1 .printing (withLog [record7 true] [⟨7, 1, 1, false⟩] .printing still)
       s.backup.latch = false ∧ s.receipts.slips = [⟨7, 1, 1, false⟩] ∧
          ∃ r ∈ s.receipts.log, r.job = 7 ∧ ∃ e ∈ r.passes, e.number = 1 ∧
            (e.close.map (·.slip)) = some .printing) ∧
      (⟨.b1200, true, .good, true, false, 25⟩ : PowerPins).paperPresent = true := by decide

theorem witness_OnlyTheirCommandsWrite :
    ∃ t, exec .stepSense still = .next t ∧ (∀ x, Instr.stepSense ≠ .characterReceived x) ∧
      Instr.stepSense ≠ .lineSent ∧ (∀ a, Instr.stepSense ≠ .setKeys a) ∧
      (∀ q, Instr.stepSense ≠ .powerUp q) ∧ Instr.stepSense ≠ .mainPowerLoss ∧
      (∀ a, Instr.stepSense ≠ .clockSet a) ∧ Instr.stepSense ≠ .secondEvent ∧
      (∀ a, Instr.stepSense ≠ .queue a) ∧ Instr.stepSense ≠ .retentionLatchSet := by
  refine ⟨_, rfl, ?_, ?_, ?_, ?_, ?_, ?_, ?_, ?_, ?_⟩ <;> simp

/-- With one command waiting. -/
def commanded (s : State) : State := { s with pending := [.toneOn] }

theorem witness_LinkAndClockBounded :
    let s := commanded still
    s.linkBounded ∧ s.clockOk ∧ ∃ t, step s = .next t := by
  refine ⟨by decide, ?_, _, rfl⟩
  intro c h
  cases h

theorem witness_CapacitiesKept :
    let s := commanded (sending .picture pass7)
    s.storeBounded ∧ s.circuitBounded ∧ s.queueBounded ∧ s.driveBounded ∧ s.gainBounded ∧
      ∃ t, step s = .next t := by
  refine ⟨by decide, by decide, by decide, by decide, ⟨by decide, ?_⟩, _, rfl⟩
  intro r h
  cases h

theorem witness_BindingKept :
    let s := commanded (sending .picture pass7)
    s.queueBounded ∧ s.bindingOk ∧ ∃ t, step s = .next t := by
  refine ⟨by decide, ⟨by decide, by decide, by decide, ?_⟩, _, rfl⟩
  intro p h _
  cases h
  exact ⟨active7, by decide, by decide, by decide⟩

theorem witness_ReferencesStayApart :
    let s := commanded still
    s.scan.br + 1024 ≤ s.scan.wr ∧ s.cal.b0 + 1024 ≤ s.cal.w0 ∧ ∃ t, step s = .next t :=
  ⟨by decide, by decide, _, rfl⟩

end Sys2Proof.Tests
end

section
/-! PROOFS. The requests that read (R5, R158, R160, R173, R175, R185). Each owner's reply is said once, for every
state, as an equation of the owner; the state is left as it is. The step of the line then follows from
`exec_takes`, an empty input buffer changing nothing that a reply reads. -/

namespace Sys2Proof.Machine

/-! ### Requests that take no word, given words -/

variable {s : State} {args : List Text}

theorem requestList_words (ha : args ≠ []) : requestList args s = (s, .no .form) := by
  simp [requestList, ha]

theorem requestStatus_words (ha : args ≠ []) : requestStatus args s = (s, .no .form) := by
  simp [requestStatus, ha]

theorem requestReportsRead_words (ha : args ≠ []) : requestReportsRead args s = (s, .no .form) := by
  simp [requestReportsRead, ha]

/-! ### The number of RECEIPT n (R158, the checks of R9) -/

theorem jobNumber_ok {w : Text} {n : Nat} (hw : number? w = some n) (h1 : 1 ≤ n) (h999 : n ≤ 999) :
    jobNumber [w] = .ok n := by
  simp [jobNumber, hw, h1, h999]

theorem findRecord_none {n : Nat} (h : ∀ r ∈ s.receipts.log, r.job ≠ n) : s.findRecord n = none := by
  simpa [State.findRecord] using h

theorem requestReceiptRead_found {n : Nat} {r : Record} (hn : jobNumber args = .ok n)
    (hr : s.findRecord n = some r) : requestReceiptRead args s = (s, .receipt r) := by
  simp [requestReceiptRead, hn, hr]

theorem requestReceiptRead_unknown {n : Nat} (hn : jobNumber args = .ok n) (hr : s.findRecord n = none) :
    requestReceiptRead args s = (s, .no .unknown) := by
  simp [requestReceiptRead, hn, hr]

/-! ### The speed STATUS shows (R175) -/

/-- The speed by drum state: the one aimed at in an approach, the one held in LOCKED, none at rest. -/
theorem Drive.shownSpeed_eq (d : Drive) :
    d.shownSpeed =
      match d.drum with
      | .spinningUp => d.target
      | .slewing => d.target
      | .locking => d.target
      | .locked => d.lockedAt
      | .parked => none
      | .coasting => none := by
  unfold Drive.shownSpeed
  cases d.drum <;> rfl

/-! ### The lines taken -/

theorem exec_receiptRead_found {w : Text} {n : Nat} {r : Record} (h : s.takes) (hw : number? w = some n)
    (h1 : 1 ≤ n) (h999 : n ≤ 999) (hr : s.findRecord n = some r) :
    exec (.receiptRead [w]) s = .next (s.answered (.receipt r)) :=
  exec_takes (.receiptRead [w]) h s _ (requestReceiptRead_found (jobNumber_ok hw h1 h999) hr)

theorem exec_receiptRead_unknown {w : Text} {n : Nat} (h : s.takes) (hw : number? w = some n)
    (h1 : 1 ≤ n) (h999 : n ≤ 999) (hr : ∀ r ∈ s.receipts.log, r.job ≠ n) :
    exec (.receiptRead [w]) s = .next (s.answered (.no .unknown)) :=
  exec_takes (.receiptRead [w]) h s _ (requestReceiptRead_unknown (jobNumber_ok hw h1 h999) (findRecord_none hr))

theorem exec_status (h : s.takes) : exec (.status []) s = .next (s.answered (.status s.statusWords)) :=
  exec_takes (.status []) h s _ rfl

/-- Settles O11: every request that reads leaves its owner's state as it is, so the step is `exec_takes` with
the owner's equation. -/
theorem queueLogAndStatusRead : Obligations.QueueLogAndStatusRead := by
  refine ⟨⟨?list, ?listText, ?listForm⟩, ⟨?clock, ?receipt, ?receiptUnknown, ?receiptLog, ?slips⟩,
    ?status, ?reports, ?statusAndReportsForm⟩
  case list => exact fun s h => exec_takes (.list []) h s _ rfl
  case listText => exact fun _ => rfl
  case listForm => exact fun args s h ha => exec_takes (.list args) h s _ (requestList_words ha)
  case clock => exact fun s h => exec_takes .clockRead h s _ rfl
  case receipt => exact fun _ _ _ _ h hw h1 h999 hr => exec_receiptRead_found h hw h1 h999 hr
  case receiptUnknown => exact fun _ _ _ h hw h1 h999 hr => exec_receiptRead_unknown h hw h1 h999 hr
  case receiptLog => exact fun s h => exec_takes .receiptList h s _ rfl
  case slips => exact fun s h => exec_takes .slipRead h s _ rfl
  case status =>
    intro s h
    rw [exec_status h, State.statusWords, Drive.shownSpeed_eq]
    rfl
  case reports => exact fun s h => exec_takes (.reportsRead []) h s _ rfl
  case statusAndReportsForm =>
    intro args s h ha
    exact ⟨exec_takes (.status args) h s _ (requestStatus_words ha),
      exec_takes (.reportsRead args) h s _ (requestReportsRead_words ha)⟩

end Sys2Proof.Machine
end

section
/-! PROOFS. The tone curves' request lines (R60 to R62). The forms of the words come first: a word whose form is
wrong has no value. Then each owner's answer is an equation per check, and the step of the line follows from
`exec_takes`. -/

namespace Sys2Proof.Machine

/-! ### The forms of numbers (R170) -/

theorem isDigit_iff (c : Char) : isDigit c = true ↔ 48 ≤ c.toNat ∧ c.toNat ≤ 57 := by
  simp [isDigit]

theorem number?_of_not_isNumber {w : Text} (h : ¬ isNumber w) : number? w = none := by
  refine if_neg fun hw => h ?_
  simpa [isDigit_iff] using hw

theorem allSome_of_none_mem {α : Type} {os : List (Option α)} (h : none ∈ os) : allSome os = none := by
  induction os with
  | nil => cases h
  | cons o os ih =>
    cases o with
    | none => rfl
    | some a =>
      have hos : none ∈ os := by simpa using h
      simp [allSome, ih hos]

theorem numbers?_of_not_isNumberList {v : Text} (h : ¬ isNumberList v) : numbers? v = none := by
  obtain ⟨piece, hmem, hpiece⟩ : ∃ u ∈ splitOn ',' v, ¬ isNumber u := by
    simpa only [isNumberList, not_forall, exists_prop] using h
  exact allSome_of_none_mem (List.mem_map.mpr ⟨piece, hmem, number?_of_not_isNumber hpiece⟩)

/-! ### The curves of the Scan Unit (R60) -/

/-- The curve named is replaced as a whole and the two others stay. -/
theorem loadCurve_eq (k : Nat) (points : List Nat) (s : State) :
    loadCurve k points s =
      { s with
        scan :=
          { s.scan with
            curve1 := if k = 1 then points else s.scan.curve1
            curve2 := if k = 2 then points else s.scan.curve2
            curve3 := if k = 3 then points else s.scan.curve3 } } := by
  unfold loadCurve State.onScan
  by_cases h1 : k = 1
  · subst h1; rfl
  by_cases h2 : k = 2
  · subst h2; rfl
  by_cases h3 : k = 3
  · subst h3; rfl
  simp [h1, h2, h3]

theorem curvePoints_eq_getD (c : Scan) {k : Nat} (hk : k ≤ 3) :
    c.curvePoints k = [curve0, c.curve1, c.curve2, c.curve3].getD k [] := by
  match k, hk with
  | 0, _ => rfl
  | 1, _ => rfl
  | 2, _ => rfl
  | 3, _ => rfl

/-! ### What the owner answers to CURVE k v0,…,v16 (R61) -/

section Load

variable {s : State} {w v : Text} {args : List Text} {k : Nat} {points : List Nat}

theorem requestCurveLoad_illFormed (h : number? w = none ∨ numbers? v = none) :
    requestCurveLoad [w, v] s = (s, .no .form) := by
  rcases h with hw | hv
  · simp [requestCurveLoad, hw]
  · cases hw : number? w <;> simp [requestCurveLoad, hw, hv]

theorem requestCurveLoad_words (h : 2 < args.length) : requestCurveLoad args s = (s, .no .form) := by
  match args, h with
  | _ :: _ :: _ :: _, _ => rfl

/-- The checks of R61 in their order, once the words have their forms. -/
theorem requestCurveLoad_checks (hw : number? w = some k) (hv : numbers? v = some points) :
    requestCurveLoad [w, v] s =
      if points.length ≠ 17 then (s, .no .form)
      else if ¬ (1 ≤ k ∧ k ≤ 3) then (s, .no .range)
      else if ∃ p ∈ points, 255 < p then (s, .no .range)
      else if s.anyActive then (s, .no .busy)
      else (loadCurve k points s, .curveLoad k) := by
  have hrange : (k < 1 ∨ 3 < k) ↔ ¬ (1 ≤ k ∧ k ≤ 3) := by omega
  simp only [requestCurveLoad, hw, hv, hrange, List.any_eq_true, decide_eq_true_eq]

/-- The owner reads nothing of the link, so it decides with the input buffer empty as it does without. -/
theorem requestCurveLoad_onLink (f : Link → Link) (hw : number? w = some k)
    (hv : numbers? v = some points) :
    requestCurveLoad [w, v] (s.onLink f) =
      ((requestCurveLoad [w, v] s).1.onLink f, (requestCurveLoad [w, v] s).2) := by
  have hactive : (s.onLink f).anyActive = s.anyActive := rfl
  rw [requestCurveLoad_checks hw hv, requestCurveLoad_checks hw hv, hactive]
  split_ifs <;> rfl

end Load

/-! ### What the owner answers to CURVE k (R62) -/

section Read

variable {s : State} {w : Text} {k : Nat}

theorem requestCurveRead_points (hw : number? w = some k) (hk : k ≤ 3) :
    requestCurveRead [w] s = (s, .curveRead k (s.scan.curvePoints k)) := by
  simp [requestCurveRead, hw, hk]

theorem requestCurveRead_range (hw : number? w = some k) (hk : 3 < k) :
    requestCurveRead [w] s = (s, .no .range) := by
  simp [requestCurveRead, hw, Nat.not_le.mpr hk]

theorem requestCurveRead_illFormed (hw : number? w = none) : requestCurveRead [w] s = (s, .no .form) := by
  simp [requestCurveRead, hw]

end Read

/-! ### The lines taken -/

/-- The step of CURVE k v0,…,v16, one branch per check of R61. -/
theorem exec_curveLoad_checks {w v : Text} {k : Nat} {points : List Nat} {s : State} (h : s.takes)
    (hw : number? w = some k) (hv : numbers? v = some points) :
    exec (.curveLoad [w, v]) s =
      .next
        (if points.length ≠ 17 then s.answered (.no .form)
        else if ¬ (1 ≤ k ∧ k ≤ 3) then s.answered (.no .range)
        else if ∃ p ∈ points, 255 < p then s.answered (.no .range)
        else if s.anyActive then s.answered (.no .busy)
        else (loadCurve k points s).answered (.curveLoad k)) := by
  have hstep := exec_takes (.curveLoad [w, v]) h _ _ (requestCurveLoad_onLink emptyBuffer hw hv)
  rw [requestCurveLoad_checks hw hv] at hstep
  refine hstep.trans (congrArg _ ?_)
  split_ifs <;> rfl

theorem exec_curveRead_points {w : Text} {k : Nat} {s : State} (h : s.takes) (hw : number? w = some k)
    (hk : k ≤ 3) :
    exec (.curveRead [w]) s =
      .next (s.answered (.curveRead k
        ([curve0, s.scan.curve1, s.scan.curve2, s.scan.curve3].getD k []))) := by
  rw [← curvePoints_eq_getD s.scan hk]
  exact exec_takes (.curveRead [w]) h s _ (requestCurveRead_points hw hk)

/-- Settles O17: a word out of its form has no value, so the form refusal comes before every other check; each
further check and the effect are the owner's equations. -/
theorem curvesLoadedAndRead : Obligations.CurvesLoadedAndRead := by
  refine ⟨⟨?loadForm, ?loadWords⟩, ?load, ?read, ?readRange, ?readForm, ?readNoWord, ?readText⟩
  case loadForm =>
    intro w v s h hform
    have hnone := hform.imp number?_of_not_isNumber numbers?_of_not_isNumberList
    exact exec_takes (.curveLoad [w, v]) h s _ (requestCurveLoad_illFormed hnone)
  case loadWords =>
    exact fun args s h hlen => exec_takes (.curveLoad args) h s _ (requestCurveLoad_words hlen)
  case load =>
    intro w v k points s h hw hv
    rw [exec_curveLoad_checks h hw hv, loadCurve_eq]
  case read => exact fun _ _ _ h hw hk => exec_curveRead_points h hw hk
  case readRange => exact fun w _ s h hw hk => exec_takes (.curveRead [w]) h s _ (requestCurveRead_range hw hk)
  case readForm => exact fun w s h hw => exec_takes (.curveRead [w]) h s _ (requestCurveRead_illFormed hw)
  case readNoWord => exact fun s h => exec_takes (.curveRead []) h s _ rfl
  case readText => exact fun _ _ => rfl

end Sys2Proof.Machine
end

section
/-! PROOFS. The roster and mask requests (R89 to R95). The forms of their words come first, each as what the
parser accepts; then each owner's answer is an equation per check, and the step of the line follows from
`exec_takes`. -/

namespace Sys2Proof.Machine

/-! ### The forms of words (R2, R89) -/

/-- The key ends at the first equals sign, so a key without one is found again. -/
theorem keyValue?_append {key : Text} (hkey : '=' ∉ key) (v : Text) :
    keyValue? (key ++ '=' :: v) = some (key, v) := by
  have hne : ∀ c ∈ key, (c != '=') = true := fun c hc => bne_iff_ne.mpr fun heq => hkey (heq ▸ hc)
  simp [keyValue?, List.dropWhile_append_of_pos hne, List.takeWhile_append_of_pos hne]

theorem eq_append_of_keyValue? {w key v : Text} (h : keyValue? w = some (key, v)) : w = key ++ '=' :: v := by
  have hsplit := List.takeWhile_append_dropWhile (p := (· != '=')) (l := w)
  have hhead := List.head?_dropWhile_not (· != '=') w
  unfold keyValue? at h
  split at h
  next c rest hdrop =>
    cases h
    rw [hdrop] at hsplit hhead
    obtain rfl : c = '=' := by simpa using hhead
    exact hsplit.symm
  next => cases h

theorem valueOf?_eq_some_iff {key w v : Text} (hkey : '=' ∉ key) :
    valueOf? key w = some v ↔ w = key ++ '=' :: v := by
  constructor
  · intro h
    unfold valueOf? at h
    split at h
    next k u hkv =>
      split_ifs at h with hk
      cases h
      exact hk ▸ eq_append_of_keyValue? hkv
    next => cases h
  · rintro rfl
    simp [valueOf?, keyValue?_append hkey]

theorem name?_eq_some_iff {most : Nat} {w x : Text} : name? most w = some x ↔ isName most w ∧ w = x := by
  simp [name?, isName, and_assoc]

theorem stationForm?_eq_some_iff {args : List Text} {n : Nat} {name : Text} :
    stationForm? args = some (n, name) ↔
      ∃ w, args = [w, "NAME=".toList ++ name] ∧ number? w = some n ∧ isName 6 name := by
  have hkey : '=' ∉ "NAME".toList := by decide
  constructor
  · intro h
    unfold stationForm? at h
    split at h
    next w v =>
      split at h
      next m x hw hx =>
        cases h
        obtain ⟨u, hv, hname⟩ := Option.bind_eq_some_iff.mp hx
        obtain ⟨hform, rfl⟩ := name?_eq_some_iff.mp hname
        exact ⟨w, by rw [(valueOf?_eq_some_iff hkey).mp hv]; rfl, hw, hform⟩
      next => cases h
    next => cases h
  · rintro ⟨w, rfl, hw, hform⟩
    have hv : valueOf? "NAME".toList ("NAME=".toList ++ name) = some name := (valueOf?_eq_some_iff hkey).mpr rfl
    have hname : name? 6 name = some name := name?_eq_some_iff.mpr ⟨hform, rfl⟩
    simp only [stationForm?, hw, hv, Option.bind_some, hname]

/-! ### The roster read (R89 to R91) -/

theorem mem_stationNumbers {k : Nat} : k ∈ stationNumbers ↔ 1 ≤ k ∧ k ≤ 16 := by
  simp only [stationNumbers, List.mem_range'_1]
  omega

theorem nameTaken_iff {s : State} {n : Nat} {name : Text} :
    s.nameTaken n name = true ↔ ∃ k, 1 ≤ k ∧ k ≤ 16 ∧ k ≠ n ∧ (s.station k).name = some name := by
  simp [State.nameTaken, mem_stationNumbers, and_assoc]

theorem inPass_iff {s : State} {n : Nat} :
    s.inPass n = true ↔ ∃ p, s.sender.pass = some p ∧ n ∈ p.stations := by
  unfold State.inPass
  cases s.sender.pass <;> simp

section Number

variable {w : Text} {n : Nat}

theorem stationNumber_illFormed (hw : number? w = none) : stationNumber w = .error .form := by
  simp [stationNumber, hw]

theorem stationNumber_range (hw : number? w = some n) (hn : ¬ (1 ≤ n ∧ n ≤ 16)) :
    stationNumber w = .error .range := by
  simp [stationNumber, hw, hn]

theorem stationNumber_ok (hw : number? w = some n) (hn : 1 ≤ n ∧ n ≤ 16) : stationNumber w = .ok n := by
  simp [stationNumber, hw, hn]

end Number

/-! ### What the owner answers to STATION s NAME=x (R89) -/

section Define

variable {s : State} {args : List Text} {n : Nat} {name : Text}

theorem requestStationDefine_illFormed (h : stationForm? args = none) :
    requestStationDefine args s = (s, .no .form) := by
  simp [requestStationDefine, h]

/-- Checks 2 to 4 of R89 in their order, once the words have their forms. -/
theorem requestStationDefine_checks (h : stationForm? args = some (n, name)) :
    requestStationDefine args s =
      if ¬ (1 ≤ n ∧ n ≤ 16) ∨ s.settings.guarded.slots < n then (s, .no .range)
      else if s.nameTaken n name then (s, .no .duplicate)
      else
        (updStation n (fun e => { e with name := some name }) s,
          if s.defined n then .stationRenamed n else .stationDefined n) := by
  have hrange : (n < 1 ∨ 16 < n) ↔ ¬ (1 ≤ n ∧ n ≤ 16) := by omega
  simp only [requestStationDefine, h, hrange, ite_or]

theorem requestStationDefine_range (h : stationForm? args = some (n, name))
    (hn : ¬ (1 ≤ n ∧ n ≤ 16) ∨ s.settings.guarded.slots < n) :
    requestStationDefine args s = (s, .no .range) := by
  rw [requestStationDefine_checks h, if_pos hn]

theorem requestStationDefine_duplicate (h : stationForm? args = some (n, name)) (hn : 1 ≤ n ∧ n ≤ 16)
    (hslots : n ≤ s.settings.guarded.slots) (hname : s.nameTaken n name = true) :
    requestStationDefine args s = (s, .no .duplicate) := by
  rw [requestStationDefine_checks h, if_neg (by omega), if_pos hname]

theorem requestStationDefine_accepted (h : stationForm? args = some (n, name)) (hn : 1 ≤ n ∧ n ≤ 16)
    (hslots : n ≤ s.settings.guarded.slots) (hname : ¬ s.nameTaken n name = true) :
    requestStationDefine args s =
      (updStation n (fun e => { e with name := some name }) s,
        if s.defined n then .stationRenamed n else .stationDefined n) := by
  rw [requestStationDefine_checks h, if_neg (by omega), if_neg hname]

end Define

/-! ### What the owner answers to STATION s OFF and STATION s (R90, R91) -/

section OffAndRead

variable {s : State} {w : Text} {n : Nat} {c : Code}

theorem requestStationOff_refused (hw : stationNumber w = .error c) :
    requestStationOff w s = (s, .no c) := by
  simp [requestStationOff, hw]

theorem requestStationOff_undefined (hw : stationNumber w = .ok n) (hname : (s.station n).name = none) :
    requestStationOff w s = (s, .no .state) := by
  simp [requestStationOff, hw, State.defined, hname]

theorem requestStationOff_inPass (hw : stationNumber w = .ok n) (hname : (s.station n).name.isSome)
    (hpass : s.inPass n = true) : requestStationOff w s = (s, .no .busy) := by
  simp [requestStationOff, hw, State.defined, hname, hpass]

theorem requestStationOff_accepted (hw : stationNumber w = .ok n) (hname : (s.station n).name.isSome)
    (hpass : ¬ s.inPass n = true) :
    requestStationOff w s =
      (updStation n (fun e => { e with name := none, silence := 0, noise := 0 }) s, .stationOff n) := by
  simp [requestStationOff, hw, State.defined, hname, hpass]

theorem requestStationRead_refused (hw : stationNumber w = .error c) :
    requestStationRead w s = (s, .no c) := by
  simp [requestStationRead, hw]

theorem requestStationRead_ok (hw : stationNumber w = .ok n) :
    requestStationRead w s = (s, .stationRead n (s.station n).name (s.station n).masked) := by
  simp [requestStationRead, hw]

end OffAndRead

/-! ### The mask (R93, R95) -/

section Mask

variable {s : State} {args : List Text} {on : Bool} {n : Nat}

theorem maskForm?_signed {w : Text} (on : Bool) (hw : number? w = some n) :
    maskForm? [(if on then '+' else '-') :: w] = some (on, n) := by
  cases on <;> simp [maskForm?, hw]

/-- Only a sign with a number behind it has the form. -/
theorem maskForm?_eq_none (h : ∀ w, args = ['+' :: w] ∨ args = ['-' :: w] → number? w = none) :
    maskForm? args = none := by
  unfold maskForm?
  split
  next c w =>
    split_ifs with hplus hminus
    · rw [h w (.inl (by rw [hplus])), Option.map_none]
    · rw [h w (.inr (by rw [hminus])), Option.map_none]
    · rfl
  next => rfl

/-- The roster after a mask change: with rounds stopped every current flag takes the pending one. -/
theorem changeMask_eq (on : Bool) (n : Nat) (s : State) :
    changeMask on n s =
      { s with
        circuit :=
          { s.circuit with
            roster :=
              if s.circuit.rounds.isSome then
                s.circuit.roster.modify (n - 1) fun e => { e with maskPending := on }
              else
                (s.circuit.roster.modify (n - 1) fun e => { e with maskPending := on }).map
                  fun e => { e with masked := e.maskPending } } } := by
  unfold changeMask
  cases hrounds : s.circuit.rounds.isSome <;> rfl

theorem requestMaskChange_illFormed (h : maskForm? args = none) :
    requestMaskChange args s = (s, .no .form) := by
  simp [requestMaskChange, h]

theorem requestMaskChange_range (h : maskForm? args = some (on, n)) (hn : ¬ (1 ≤ n ∧ n ≤ 16)) :
    requestMaskChange args s = (s, .no .range) := by
  simp [requestMaskChange, h, hn]

theorem requestMaskChange_accepted (h : maskForm? args = some (on, n)) (hn : 1 ≤ n ∧ n ≤ 16) :
    requestMaskChange args s = (changeMask on n s, .maskChange on n s.circuit.rounds.isSome) := by
  simp [requestMaskChange, h, hn]

theorem stationListText_eq (ns : List Nat) :
    stationListText ns = if ns = [] then "NONE".toList else joinWith ',' (ns.map (Nat.toDigits 10)) := by
  cases ns <;> rfl

end Mask

/-! ### The lines taken -/

/-- Settles O12: a read leaves the owner's state as it is; its refusals are those of the station number. -/
theorem rosterAndMaskRead : Obligations.RosterAndMaskRead := by
  refine ⟨⟨?form, ?range, ?read, ?list, ?readText, ?listText⟩, ?mask, ?maskText⟩
  case form =>
    exact fun w s h hw =>
      exec_takes (.stationRead w) h s _ (requestStationRead_refused (stationNumber_illFormed hw))
  case range =>
    exact fun w n s h hw hn =>
      exec_takes (.stationRead w) h s _ (requestStationRead_refused (stationNumber_range hw hn))
  case read =>
    exact fun w n s h hw h1 h16 =>
      exec_takes (.stationRead w) h s _ (requestStationRead_ok (stationNumber_ok hw ⟨h1, h16⟩))
  case list => exact fun s h => exec_takes .stationList h s _ rfl
  case readText => exact fun _ _ _ => rfl
  case listText => exact fun _ => rfl
  case mask => exact fun s h => exec_takes .maskRead h s _ rfl
  case maskText =>
    intro a b
    rw [← stationListText_eq, ← stationListText_eq]
    rfl

/-- Settles O14: the words have their form exactly where the parser of R89 accepts them, and each check and
the effect are the owner's equations. Nothing the owner reads stands in the input buffer. -/
theorem stationDefinedAndUndefined : Obligations.StationDefinedAndUndefined := by
  refine ⟨?define, ⟨?defineForm, ?defineRefused, ?texts⟩,
    ?offForm, ?offRange, ?offUndefined, ?offInPass, ?off⟩
  case define =>
    intro w name n s h hw h1 h16 hslots hne hlen hchars hfree
    have hform := stationForm?_eq_some_iff.mpr ⟨w, rfl, hw, hne, hlen, hchars⟩
    have htaken : ¬ (s.onLink emptyBuffer).nameTaken n name = true := by
      rw [nameTaken_iff]
      rintro ⟨k, hk1, hk16, hkn, hk⟩
      exact hfree k hk1 hk16 hkn hk
    exact exec_takes (.stationDefine [w, "NAME=".toList ++ name]) h
      (updStation n (fun e => { e with name := some name }) s) _
      (requestStationDefine_accepted hform ⟨h1, h16⟩ hslots htaken)
  case defineForm =>
    intro args s h hill
    have hform : stationForm? args = none := by
      refine Option.eq_none_iff_forall_ne_some.mpr fun ⟨n, name⟩ hsome => ?_
      obtain ⟨w, hargs, hw, hname⟩ := stationForm?_eq_some_iff.mp hsome
      exact hill w name hargs ⟨by simp [hw], hname⟩
    exact exec_takes (.stationDefine args) h s _ (requestStationDefine_illFormed hform)
  case defineRefused =>
    intro w name n s h hw hne hlen hchars
    have hform := stationForm?_eq_some_iff.mpr ⟨w, rfl, hw, hne, hlen, hchars⟩
    constructor
    · exact fun hn => exec_takes (.stationDefine _) h s _ (requestStationDefine_range hform hn)
    · intro k h1 h16 hslots hk1 hk16 hkn hk
      have htaken : (s.onLink emptyBuffer).nameTaken n name = true :=
        nameTaken_iff.mpr ⟨k, hk1, hk16, hkn, hk⟩
      exact exec_takes (.stationDefine _) h s _
        (requestStationDefine_duplicate hform ⟨h1, h16⟩ hslots htaken)
  case texts => exact fun _ => ⟨rfl, rfl, rfl⟩
  case offForm =>
    exact fun w s h hw =>
      exec_takes (.stationOff w) h s _ (requestStationOff_refused (stationNumber_illFormed hw))
  case offRange =>
    exact fun w n s h hw hn =>
      exec_takes (.stationOff w) h s _ (requestStationOff_refused (stationNumber_range hw hn))
  case offUndefined =>
    exact fun w n s h hw h1 h16 hname =>
      exec_takes (.stationOff w) h s _
        (requestStationOff_undefined (stationNumber_ok hw ⟨h1, h16⟩) hname)
  case offInPass =>
    exact fun w n p s h hw h1 h16 hname hp hmem =>
      exec_takes (.stationOff w) h s _
        (requestStationOff_inPass (stationNumber_ok hw ⟨h1, h16⟩) hname (inPass_iff.mpr ⟨p, hp, hmem⟩))
  case off =>
    intro w n s h hw h1 h16 hname hout
    have hpass : ¬ (s.onLink emptyBuffer).inPass n = true := by
      rw [inPass_iff]
      rintro ⟨p, hp, hmem⟩
      exact hout p hp hmem
    exact exec_takes (.stationOff w) h
      (updStation n (fun e => { e with name := none, silence := 0, noise := 0 }) s) _
      (requestStationOff_accepted (stationNumber_ok hw ⟨h1, h16⟩) hname hpass)

/-- Settles O15: the change is one equation of the roster, the same with the input buffer emptied. -/
theorem maskChangeTaken : Obligations.MaskChangeTaken := by
  refine ⟨?taken, ?range, ?form, fun _ _ _ => rfl⟩
  case taken =>
    intro w n on s h hw h1 h16 pended roster t
    have howner :=
      requestMaskChange_accepted (s := s.onLink emptyBuffer) (maskForm?_signed on hw) ⟨h1, h16⟩
    rw [changeMask_eq] at howner
    exact exec_takes (.maskChange _) h t _ howner
  case range =>
    exact fun w n on s h hw hn =>
      exec_takes (.maskChange _) h s _ (requestMaskChange_range (maskForm?_signed on hw) hn)
  case form =>
    exact fun args s h hill =>
      exec_takes (.maskChange args) h s _ (requestMaskChange_illFormed (maskForm?_eq_none hill))

end Sys2Proof.Machine
end

section
/-! PROOFS. The requests that write the link's two report flags (R173, R174). A flag and the input buffer are
separate fields of the link, so setting the one and emptying the other commute; the step of the line then
follows from `exec_takes`. -/

namespace Sys2Proof.Machine

variable {s : State} {args : List Text}

/-! ### What the owner answers to CLEAR, REPORTS OFF and REPORTS ON -/

/-- The overflow flag cleared, and nothing else of the link (R174). -/
def clearOverflow (l : Link) : Link := { l with overflow := false }

theorem requestClear_alone : requestClear [] s = (s.onLink clearOverflow, .clear s.link.overflow) := rfl

theorem requestClear_words (ha : args ≠ []) : requestClear args s = (s, .no .form) := by
  simp [requestClear, ha]

theorem clearOverflow_onLink_emptyBuffer :
    (s.onLink emptyBuffer).onLink clearOverflow = (s.onLink clearOverflow).onLink emptyBuffer := rfl

theorem setPause_onLink_emptyBuffer (on : Bool) :
    setPause on (s.onLink emptyBuffer) = (setPause on s).onLink emptyBuffer := rfl

/-! ### The lines taken -/

/-- The reply tells the flag as it was before the request cleared it. -/
theorem exec_clear_alone (h : s.takes) :
    exec (.clear []) s = .next ((s.onLink clearOverflow).answered (.clear s.link.overflow)) := by
  refine exec_takes (.clear []) h (s.onLink clearOverflow) (.clear s.link.overflow) ?_
  rw [← clearOverflow_onLink_emptyBuffer]
  exact requestClear_alone

theorem exec_clear_words (h : s.takes) (ha : args ≠ []) :
    exec (.clear args) s = .next (s.answered (.no .form)) :=
  exec_takes (.clear args) h s _ (requestClear_words ha)

theorem exec_reportsOff (h : s.takes) :
    exec .reportsOff s = .next ((setPause true s).answered .reportsOff) :=
  exec_takes .reportsOff h _ _ (congrArg (·, Reply.reportsOff) (setPause_onLink_emptyBuffer true))

theorem exec_reportsOn (h : s.takes) :
    exec .reportsOn s = .next ((setPause false s).answered .reportsOn) :=
  exec_takes .reportsOn h _ _ (congrArg (·, Reply.reportsOn) (setPause_onLink_emptyBuffer false))

/-- Settles O13: the step of each line is that of its owner's one flag. -/
theorem reportsClearedAndPaused : Obligations.ReportsClearedAndPaused := by
  refine ⟨⟨?clear, ?clearForm, ?textSet, ?textClear⟩, ?reports⟩
  case clear => exact fun _ h => exec_clear_alone h
  case clearForm => exact fun _ _ h ha => exec_clear_words h ha
  case textSet => rfl
  case textClear => rfl
  case reports => exact fun _ h => ⟨exec_reportsOff h, exec_reportsOn h⟩

end Sys2Proof.Machine
end

section
/-! PROOFS. What the work inside a step can do to the capacities of the part, said once for each operation. A block
is `Within` its limits; `Work s t` says that every block stays within its limits from `s` to `t` and that neither
the jobs' numbers and states, nor the load state, nor the owner of the pass change. The operations that do change
those (a release, a binding, a start, the close of a pass) are taken in the next part. -/

namespace Sys2Proof.Machine

variable {s t u : State}

/-! ### The limits of each block -/

/-- The store with the line being scanned counted keeps its limit (R65). -/
def Scan.Within (c : Scan) : Prop := c.store.length + (if (c.pass.bind (·.line)).isSome then 1 else 0) ≤ 2

/-- The running references are 1,024 apart (R54). -/
def Scan.Apart (c : Scan) : Prop := c.br + 1024 ≤ c.wr

/-- The roster has its sixteen entries and the counts keep their limits (section 5.1, R92, R103). -/
def Circuit.Within (c : Circuit) : Prop :=
  c.roster.length = 16 ∧ c.garble ≤ 65535 ∧ ∀ e ∈ c.roster, e.silence ≤ 12 ∧ e.noise ≤ 65535

/-- The drive keeps its limits, the loss count that of `loss`: the index mark that loses the lock raises it past
its limit of 2 until the drive fault clears it (R26, R30, R32). -/
def Drive.Within (loss : Nat) (d : Drive) : Prop :=
  d.spinUps.length ≤ 6 ∧ d.lockCount ≤ 3 ∧ d.lossCount ≤ loss ∧ d.stepFaults ≤ 3 ∧ d.temp ≤ 99

/-- The gain step and every step a run can come to lie in 0 to 63 (R75, R79). -/
def Calib.Within (c : Calib) : Prop := c.gain ≤ 63 ∧ ∀ r, c.run = some r → r.bounded

/-- The references found by the calibration are 1,024 apart (R80). -/
def Calib.Apart (c : Calib) : Prop := c.b0 + 1024 ≤ c.w0

/-! ### What a block keeps -/

def Scan.Keeps (c d : Scan) : Prop := (c.Within → d.Within) ∧ (c.Apart → d.Apart)
def Circuit.Keeps (c d : Circuit) : Prop := c.Within → d.Within
def Drive.Keeps (c d : Drive) : Prop := ∀ loss, c.Within loss → d.Within loss
def Calib.Keeps (c d : Calib) : Prop := (c.Within → d.Within) ∧ (c.Apart → d.Apart)

/-- What the binding of queue and pass reads of a job. -/
def Job.binding (j : Job) : Nat × JobState := (j.number, j.state)

/-- What the binding of queue and pass reads of the pass: its job, and whether it is detached. -/
def Pass.owner (p : Pass) : Nat × Bool := (p.job, p.detached)

/-- The jobs' numbers and states, in the order of the queue's list. -/
def State.bindings (s : State) : List (Nat × JobState) := s.queue.jobs.map Job.binding

/-- The owner of the pass in progress. -/
def State.owner (s : State) : Option (Nat × Bool) := s.sender.pass.map Pass.owner

/-- From `s` to `t` the blocks stay within their limits, and jobs, load state and the pass's owner are as they were. -/
structure Work (s t : State) : Prop where
  scan : s.scan.Keeps t.scan
  circuit : s.circuit.Keeps t.circuit
  drive : s.drive.Keeps t.drive
  cal : s.cal.Keeps t.cal
  log : t.receipts.log.length = s.receipts.log.length
  counter : t.backup.counter = s.backup.counter
  bindings : t.bindings = s.bindings
  load : t.queue.load = s.queue.load
  owner : t.owner = s.owner

theorem Scan.Keeps.refl (c : Scan) : c.Keeps c := ⟨id, id⟩
theorem Circuit.Keeps.refl (c : Circuit) : c.Keeps c := id
theorem Drive.Keeps.refl (c : Drive) : c.Keeps c := fun _ => id
theorem Calib.Keeps.refl (c : Calib) : c.Keeps c := ⟨id, id⟩

theorem Work.refl (s : State) : Work s s :=
  ⟨.refl _, .refl _, .refl _, .refl _, rfl, rfl, rfl, rfl, rfl⟩

theorem Work.trans (h : Work s t) (k : Work t u) : Work s u where
  scan := ⟨k.scan.1 ∘ h.scan.1, k.scan.2 ∘ h.scan.2⟩
  circuit := k.circuit ∘ h.circuit
  drive := fun loss => k.drive loss ∘ h.drive loss
  cal := ⟨k.cal.1 ∘ h.cal.1, k.cal.2 ∘ h.cal.2⟩
  log := k.log.trans h.log
  counter := k.counter.trans h.counter
  bindings := k.bindings.trans h.bindings
  load := k.load.trans h.load
  owner := k.owner.trans h.owner

/-! ### One rule per block -/

theorem Work.post (h : Work s t) (r : Report) : Work s (post r t) :=
  h.trans ⟨.refl _, .refl _, .refl _, .refl _, rfl, rfl, rfl, rfl, rfl⟩

theorem Work.advance (h : Work s t) (m : Moment) : Work s (advanceTo m t) :=
  h.trans ⟨.refl _, .refl _, .refl _, .refl _, rfl, rfl, rfl, rfl, rfl⟩

theorem Work.onLink (h : Work s t) (f : Link → Link) : Work s (t.onLink f) :=
  h.trans ⟨.refl _, .refl _, .refl _, .refl _, rfl, rfl, rfl, rfl, rfl⟩

theorem Work.onDrive (h : Work s t) {f : Drive → Drive} (hf : t.drive.Keeps (f t.drive)) :
    Work s (t.onDrive f) :=
  h.trans ⟨.refl _, .refl _, hf, .refl _, rfl, rfl, rfl, rfl, rfl⟩

/-- A change of the drive that writes none of its counts. -/
theorem Work.onDriveSame (h : Work s t) {f : Drive → Drive}
    (hf : ∀ loss, t.drive.Within loss = (f t.drive).Within loss := by exact fun _ => rfl) : Work s (t.onDrive f) :=
  h.onDrive fun loss hd => (hf loss).mp hd

theorem Work.onCal (h : Work s t) {f : Calib → Calib} (hf : t.cal.Keeps (f t.cal)) : Work s (t.onCal f) :=
  h.trans ⟨.refl _, .refl _, .refl _, hf, rfl, rfl, rfl, rfl, rfl⟩

theorem Work.onScan (h : Work s t) {f : Scan → Scan} (hf : t.scan.Keeps (f t.scan)) : Work s (t.onScan f) :=
  h.trans ⟨hf, .refl _, .refl _, .refl _, rfl, rfl, rfl, rfl, rfl⟩

theorem Work.onCircuit (h : Work s t) {f : Circuit → Circuit} (hf : t.circuit.Keeps (f t.circuit)) :
    Work s (t.onCircuit f) :=
  h.trans ⟨.refl _, hf, .refl _, .refl _, rfl, rfl, rfl, rfl, rfl⟩

theorem Work.onReceipts (h : Work s t) {f : Receipts → Receipts}
    (hf : (f t.receipts).log.length = t.receipts.log.length := by rfl) : Work s (t.onReceipts f) :=
  h.trans ⟨.refl _, .refl _, .refl _, .refl _, hf, rfl, rfl, rfl, rfl⟩

theorem Work.onSender (h : Work s t) {f : Sender → Sender}
    (hf : (f t.sender).pass.map Pass.owner = t.sender.pass.map Pass.owner := by rfl) : Work s (t.onSender f) :=
  h.trans ⟨.refl _, .refl _, .refl _, .refl _, rfl, rfl, rfl, rfl, hf⟩

theorem Work.onPass (h : Work s t) {f : Pass → Pass} (hf : ∀ p, (f p).owner = p.owner := by exact fun _ => rfl) :
    Work s (t.onPass f) :=
  h.onSender (by simp [Function.comp_def, hf])

theorem Work.onQueue (h : Work s t) {f : Queue → Queue}
    (hj : (f t.queue).jobs.map Job.binding = t.queue.jobs.map Job.binding)
    (hl : (f t.queue).load = t.queue.load) : Work s (t.onQueue f) :=
  h.trans ⟨.refl _, .refl _, .refl _, .refl _, rfl, rfl, hj, hl, rfl⟩

theorem Work.onSettings (h : Work s t) (f : Settings → Settings) : Work s (t.onSettings f) :=
  h.trans ⟨.refl _, .refl _, .refl _, .refl _, rfl, rfl, rfl, rfl, rfl⟩

theorem Work.onBackup (h : Work s t) {f : Backup → Backup} (hf : (f t.backup).counter = t.backup.counter) :
    Work s (t.onBackup f) :=
  h.trans ⟨.refl _, .refl _, .refl _, .refl _, rfl, hf, rfl, rfl, rfl⟩

/-- Jobs changed one by one, their numbers and states kept. -/
theorem Work.onJobs (h : Work s t) {f : Job → Job} (hf : ∀ j, (f j).binding = j.binding) :
    Work s (t.onQueue fun q => { q with jobs := q.jobs.map f }) :=
  h.onQueue (by simp [Function.comp_def, hf]) rfl

theorem updJob_work (h : Work s t) (n : Nat) {f : Job → Job} (hf : ∀ j, (f j).binding = j.binding) :
    Work s (updJob n f t) :=
  h.onJobs fun j => by split <;> simp [hf]

theorem updParty_work (h : Work s t) (n : Nat) (f : Party → Party) : Work s (updParty n f t) :=
  h.onPass

theorem updRecord_work (h : Work s t) (n : Nat) (f : Record → Record) : Work s (updRecord n f t) :=
  h.onReceipts (by simp)

theorem setCirc_work (h : Work s t) (c : CircuitState) (x : Tone) : Work s (setCirc c x t) := h.onSender

/-! ### The drive -/

theorem stopMotor_keeps (d : Drive) : d.Keeps (stopMotor d) :=
  fun _ ⟨hspin, _, _, hstep, htemp⟩ => ⟨hspin, Nat.zero_le _, Nat.zero_le _, hstep, htemp⟩

theorem motorOff_work (h : Work s t) : Work s (motorOff t) := by
  unfold motorOff
  have hstop := h.onDrive (stopMotor_keeps t.drive)
  dsimp only
  split
  · exact hstop.post _
  · exact hstop

theorem staleLamp_work (h : Work s t) : Work s (staleLamp t) := by
  unfold staleLamp
  split
  · exact (h.onCal ⟨id, id⟩).post _
  · exact h

theorem lampOff_work (h : Work s t) : Work s (lampOff t) := by
  unfold lampOff
  split
  · exact h
  · exact staleLamp_work h.onDriveSame

theorem idleExpire_work (h : Work s t) : Work s (idleExpire t) :=
  motorOff_work (lampOff_work h.onDriveSame)

theorem lampOn_work (h : Work s t) : Work s (lampOn t) := by
  unfold lampOn
  split
  · exact h.onDriveSame
  · exact h

theorem youngStarts_length (now : Moment) (starts : List Moment) :
    (youngStarts now starts).length ≤ starts.length := List.length_filter_le _ _

/-- Six starts at most stand in the list: a seventh is deferred (R36). -/
theorem spinUp_work (h : Work s t) (w : Speed) : Work s (spinUp w t) := by
  unfold spinUp
  dsimp only
  split
  next hyoung =>
    refine ((h.advance _).onDrive fun loss hd => ?_).post _
    obtain ⟨-, -, -, hstep, htemp⟩ := hd
    have hcap : Config.spinUpCap = 6 := rfl
    exact ⟨by simp; omega, Nat.zero_le _, Nat.zero_le _, hstep, htemp⟩
  next =>
    refine (h.onDrive fun loss hd => ?_).post _
    obtain ⟨hspin, hrest⟩ := hd
    exact ⟨(youngStarts_length _ _).trans hspin, hrest⟩

theorem slew_work (h : Work s t) (w : Speed) : Work s (slew w t) :=
  (h.onDrive fun _ ⟨hspin, _, _, hstep, htemp⟩ => ⟨hspin, Nat.zero_le _, Nat.zero_le _, hstep, htemp⟩).post _

theorem serveDrum_work (h : Work s t) : Work s (serveDrum t) := by
  unfold serveDrum
  repeat' split
  all_goals first | exact h | exact spinUp_work h _ | exact slew_work h _

theorem serve_work (h : Work s t) : Work s (serve t) := serveDrum_work (lampOn_work h)

theorem beginIdle_work (h : Work s t) : Work s (beginIdle t) := by
  unfold beginIdle
  have hidle := h.onDriveSame (f := fun d =>
    { d with pendingStart := false, idleTimer := some (t.now + 1000 * t.settings.idle) })
  dsimp only
  split
  · exact idleExpire_work hidle
  · exact hidle

theorem wantWithdrawn_work (h : Work s t) : Work s (wantWithdrawn t) := by
  unfold wantWithdrawn
  split
  · exact beginIdle_work h
  · exact serve_work h

theorem raiseQueueWant_work (h : Work s t) (w : Speed) : Work s (raiseQueueWant w t) :=
  serve_work h.onDriveSame

theorem withdrawQueueWant_work (h : Work s t) : Work s (withdrawQueueWant t) := by
  unfold withdrawQueueWant
  split
  · exact h
  · exact wantWithdrawn_work h.onDriveSame

theorem raiseCalWant_work (h : Work s t) (w : Speed) : Work s (raiseCalWant w t) :=
  serve_work h.onDriveSame

theorem withdrawCalWant_work (h : Work s t) : Work s (withdrawCalWant t) := by
  unfold withdrawCalWant
  split
  · exact h
  · exact wantWithdrawn_work h.onDriveSame

theorem orderReturn_work (h : Work s t) : Work s (orderReturn t) := by
  unfold orderReturn
  split
  · exact h
  · exact h
  all_goals exact h.onDriveSame

theorem passToDrive_work (h : Work s t) : Work s (passToDrive t) :=
  orderReturn_work (h.onDrive fun _ ⟨hspin, hlock, hloss, _, htemp⟩ => ⟨hspin, hlock, hloss, Nat.zero_le _, htemp⟩)

theorem orderStep_work (h : Work s t) (p : Pitch) : Work s (orderStep p t) := h.onDriveSame

theorem haltCarriage_within (loss : Nat) (d : Drive) : d.Within loss = (haltCarriage d).Within loss := by
  unfold haltCarriage
  split <;> rfl

/-! ### The Calibration Unit (R76 to R86) -/

theorem askCalibration_work (h : Work s t) : Work s (askCalibration t) := by
  unfold askCalibration
  split
  · exact h
  · exact raiseCalWant_work (h.onCal ⟨id, id⟩) _

/-- A calibration without a run is within its limits where its gain step is. -/
theorem Calib.keeps_of_gain {c d : Calib} (hrun : d.run = none) (hg : c.Within → d.gain ≤ 63)
    (ha : c.Apart → d.Apart) : c.Keeps d :=
  ⟨fun hc => ⟨hg hc, fun r hr => by simp [hrun] at hr⟩, ha⟩

theorem endRequest_work (h : Work s t) : Work s (endRequest t) :=
  withdrawCalWant_work (h.onCal (Calib.keeps_of_gain rfl (fun hc => hc.1) id))

/-- A run that aborts gives back the step it saved (R82). -/
theorem abortRun_work (h : Work s t) : Work s (abortRun t) := by
  unfold abortRun
  split
  · exact h
  next r hr =>
    have hsaved : t.cal.Within → r.savedStep ≤ 63 := fun hc => (hc.2 r hr).1
    exact endRequest_work (((h.onCal (Calib.keeps_of_gain rfl hsaved id)).post _).onJobs
      fun j => by split <;> rfl)

theorem calDriveFault_work (h : Work s t) : Work s (calDriveFault t) := by
  unfold calDriveFault
  split
  · exact abortRun_work h
  · split
    · exact endRequest_work h
    · exact h

/-- A run begins with every weight still to be tried (R77, R79). -/
theorem beginRun_work (h : Work s t) : Work s (beginRun t) := by
  refine (h.onCal ⟨fun hc => ⟨Nat.zero_le _, ?_⟩, id⟩).post _
  rintro r hr
  cases hr
  exact ⟨hc.1, le_rfl, Nat.le_of_ble_eq_true rfl, fun _ => rfl, fun h2 => absurd h2 (Nat.not_succ_le_self 1)⟩

/-- Every step that a bounded run applies lies in 0 to 63 (R79). -/
theorem appliedGain_le {r : CalRun} (hr : r.bounded) : appliedGain r.working r.counted ≤ 63 := by
  obtain ⟨-, h1, h8, hone, hsum⟩ := hr
  unfold appliedGain trialWeight
  interval_cases hc : r.counted <;> simp_all <;> omega

theorem openRevolution_work (h : Work s t) {r : CalRun} (hr : t.cal.Within → r.bounded) :
    Work s (openRevolution r t) := by
  refine h.onCal ⟨fun hc => ⟨appliedGain_le (hr hc), ?_⟩, id⟩
  rintro r' hr'
  cases hr'
  exact hr hc

theorem calChecks_apart {w b : Nat} (h : calChecks w b = true) : b + 1024 ≤ w := by
  simp [calChecks] at h
  omega

/-- The step completed by a good revolution keeps what the weights still to be tried can add (R79). -/
theorem CalRun.bounded_next {r : CalRun} {kept : Nat} (hr : r.bounded) (h2 : 2 ≤ r.counted) (h7 : r.counted ≤ 7)
    (hk : kept = r.working ∨ kept = r.working + trialWeight r.counted) :
    CalRun.bounded { r with working := kept, counted := r.counted + 1 } := by
  obtain ⟨hsaved, h1, h8, -, hsum⟩ := hr
  refine ⟨hsaved, by simp, by simp; omega, fun h => absurd h (by simp; omega), fun _ => ?_⟩
  have hs := hsum h2
  unfold trialWeight at hk
  have hw : 2 ^ (8 - r.counted) = 2 * 2 ^ (7 - r.counted) := by
    rw [← pow_succ']; congr 1; omega
  have hn : 8 - (r.counted + 1) = 7 - r.counted := by omega
  simp only [hn]
  omega

theorem completeStep_work (h : Work s t) {r : CalRun} (hr : t.cal.run = some r) :
    Work s (completeStep r t) := by
  have hb : t.cal.Within → r.bounded := fun hc => hc.2 r hr
  unfold completeStep
  split
  next h1 =>
    refine openRevolution_work h fun hc => ?_
    obtain ⟨hsaved, hc1, -, hone, -⟩ := hb hc
    have : r.counted = 1 := by omega
    exact ⟨hsaved, by simp, by simp, by simp, fun _ => by simp [hone this]⟩
  next h1 =>
    split
    · exact openRevolution_work h hb
    next w b hm =>
      split
      next h7 =>
        refine openRevolution_work h fun hc => CalRun.bounded_next (hb hc) (by omega) h7 ?_
        split
        · exact .inr rfl
        · exact .inl rfl
      next h7 =>
        split
        next hchecks =>
          refine endRequest_work ((h.onCal (Calib.keeps_of_gain rfl (fun hc => ?_) fun _ => ?_)).post _)
          · obtain ⟨-, -, h8, -, hsum⟩ := hb hc
            have hw := hsum (by omega)
            have : 1 ≤ 2 ^ (8 - r.counted) := Nat.one_le_two_pow
            show r.working ≤ 63
            omega
          · exact calChecks_apart hchecks
        · exact endRequest_work ((h.onCal (Calib.keeps_of_gain rfl (fun hc => (hb hc).1) id)).post _)

theorem spoiledStep_work (h : Work s t) {r : CalRun} (hr : t.cal.run = some r) : Work s (spoiledStep r t) := by
  unfold spoiledStep
  split
  · exact abortRun_work h
  · exact openRevolution_work h fun hc => hc.2 r hr

theorem calIndex_work (h : Work s t) (locked good : Bool) : Work s (calIndex locked good t) := by
  unfold calIndex
  split
  next r hr =>
    split
    · exact completeStep_work h hr
    · exact spoiledStep_work h hr
  · split
    · exact beginRun_work h
    · exact h

theorem calSample_work (h : Work s t) (p x : Nat) : Work s (calSample p x t) := by
  refine h.onCal ⟨fun hc => ⟨hc.1, fun r hr => ?_⟩, id⟩
  obtain ⟨r', hr', rfl⟩ := Option.map_eq_some_iff.mp hr
  have := hc.2 r' hr'
  split_ifs <;> exact this

theorem onScanPass_work (h : Work s t) {f : ScanPass → ScanPass}
    (hf : ∀ x, (f x).line.isSome = x.line.isSome := by exact fun _ => rfl) : Work s (t.onScanPass f) := by
  refine h.onScan ⟨fun hc => ?_, id⟩
  cases hp : t.scan.pass <;> simp_all [Scan.Within]

theorem calTemperature_work (h : Work s t) (d : Nat) : Work s (calTemperature d t) := by
  unfold calTemperature
  dsimp only
  split
  · split
    · have hstale := (h.onCal (f := fun c => { c with state := .stale }) ⟨id, id⟩).post .calStaleDrift
      split
      · exact hstale
      · exact (onScanPass_work hstale).post _
    · exact h
  · exact h

/-! ### The Circuit Unit -/

/-- Every roster entry changed alike, its counts raised by none of it. -/
theorem Circuit.keeps_map {c : Circuit} {f : Station → Station} {r : Option Rounds}
    (hf : ∀ e, (f e).silence ≤ e.silence ∧ (f e).noise ≤ e.noise) :
    c.Keeps { c with roster := c.roster.map f, rounds := r } := by
  rintro ⟨hlen, hgarble, hcounts⟩
  refine ⟨by simpa using hlen, hgarble, fun e he => ?_⟩
  obtain ⟨e', he', rfl⟩ := List.mem_map.mp he
  have := hcounts e' he'
  have := hf e'
  omega

theorem applyMask_work (h : Work s t) : Work s (applyMask t) :=
  h.onCircuit (Circuit.keeps_map fun _ => ⟨le_rfl, le_rfl⟩)

theorem zeroCounts_work (h : Work s t) : Work s (zeroCounts t) :=
  h.onCircuit (Circuit.keeps_map fun _ => ⟨Nat.zero_le _, Nat.zero_le _⟩)

theorem startRounds_work (h : Work s t) (slots : Nat) : Work s (startRounds slots t) :=
  (zeroCounts_work (applyMask_work h)).onCircuit fun hc => hc

theorem stopRounds_work (h : Work s t) : Work s (stopRounds t) := applyMask_work (h.onCircuit fun hc => hc)

theorem onRounds_work (h : Work s t) (f : Rounds → Rounds) : Work s (onRounds f t) := h.onCircuit fun hc => hc

theorem countGarble_work (h : Work s t) (k : SlotKind) : Work s (countGarble k t) := by
  unfold countGarble
  split
  · exact h.onCircuit fun ⟨hlen, _, hcounts⟩ => ⟨hlen, Nat.min_le_left _ _, hcounts⟩
  · exact h

theorem updStation_work (h : Work s t) (n : Nat) {f : Station → Station}
    (hf : ∀ e, e.silence ≤ 12 → e.noise ≤ 65535 → (f e).silence ≤ 12 ∧ (f e).noise ≤ 65535) :
    Work s (updStation n f t) := by
  refine h.onCircuit fun ⟨hlen, hgarble, hcounts⟩ => ⟨by simpa using hlen, hgarble, fun e he => ?_⟩
  obtain ⟨i, hi, rfl⟩ := List.mem_iff_getElem.mp he
  rw [List.getElem_modify]
  have := hcounts _ (List.getElem_mem (l := t.circuit.roster) (by simpa using hi))
  split
  · exact hf _ this.1 this.2
  · exact this

/-! ### The Scan Unit -/

theorem scanEnd_work (h : Work s t) : Work s (scanEnd t) := by
  refine h.onScan ⟨fun hc => ?_, fun hc => ?_⟩
  · split
    · exact hc
    · split
      · exact hc
      · simp [Scan.Within]
  · split
    · exact hc
    · split <;> exact hc

theorem spoilLine_work (h : Work s t) : Work s (spoilLine t) := onScanPass_work h fun _ => by simp

/-- A line begins only with at most one record in the store (R69). -/
theorem beginLine_work (h : Work s t) (perm : Permission) (locked : Bool) : Work s (beginLine perm locked t) := by
  unfold beginLine
  split
  · exact h
  next x hx =>
    split
    next hbegin =>
      have hline : Work s (t.onScanPass fun x => { x with line := some (freshLine x.nextLine) }) := by
        refine h.onScan ⟨fun _ => ?_, id⟩
        simp only [mayBeginLine, Bool.and_eq_true, decide_eq_true_eq] at hbegin
        simp [Scan.Within, hx]
        omega
      dsimp only
      split
      · exact hline
      · exact orderStep_work hline _
    · exact h

theorem closeLine_keeps (good : Bool) (c : Scan) : c.Keeps (closeLine good c) := by
  unfold closeLine
  split
  · exact .refl _
  next x hx =>
    split
    · exact .refl _
    next l hl =>
      refine ⟨fun hc => ?_, fun hc => ?_⟩
      · simp only [Scan.Within, hx, Option.bind_some, hl, Option.isSome_some, if_true] at hc
        split <;> simp [Scan.Within] <;> omega
      · split <;> exact hc

theorem blend_apart {wr br wl bl : Nat} (h : br + 1024 ≤ wr) (hl : bl + 1024 ≤ wl) :
    blend br bl + 1024 ≤ blend wr wl := by
  unfold blend
  omega

theorem lineReference_keeps {c : Scan} {x : ScanPass} {l : ScanLine} (hx : c.pass = some x)
    (hl : x.line = some l) : c.Keeps (lineReference x l c) := by
  unfold lineReference
  dsimp only
  split
  next hv =>
    simp only [referenceValid, Bool.and_eq_true, decide_eq_true_eq] at hv
    exact ⟨fun hc => by simpa [Scan.Within, hx, hl] using hc, fun hc => blend_apart hc hv.2⟩
  · split
    · exact ⟨fun hc => by simpa [Scan.Within, hx, hl] using hc, id⟩
    · exact ⟨fun hc => by simp [Scan.Within, hx, hl] at hc ⊢; omega, id⟩

theorem scanSample_keeps (p x : Nat) (c : Scan) : c.Keeps (scanSample p x c) := by
  unfold scanSample
  split
  · exact .refl _
  next ctx hctx =>
    split
    · exact .refl _
    next l hl =>
      have hsame : ∀ l', c.Keeps { c with pass := some { ctx with line := some l' } } :=
        fun l' => ⟨fun hc => by simpa [Scan.Within, hctx, hl] using hc, id⟩
      split_ifs
      · exact hsame _
      · exact hsame _
      · exact lineReference_keeps hctx hl
      · exact .refl _
      · exact hsame _

theorem takeRecord_work (h : Work s t) (m : Nat) : Work s (takeRecord m t).2 := by
  unfold takeRecord
  split
  · exact h
  next r rest hstore =>
    split
    · refine h.onScan (f := fun c => { c with store := rest }) ⟨fun hc => ?_, id⟩
      simp only [Scan.Within, hstore, List.length_cons] at hc ⊢
      omega
    · exact h

/-! ### The Receipt Unit -/

theorem closeRecord_work (h : Work s t) (n : Nat) : Work s (closeRecord n t) := by
  unfold closeRecord
  split
  · exact h
  · exact updRecord_work h _ _

theorem completePass_work (h : Work s t) (p : Pass) (o : PassOutcome) : Work s (completePass p o t) :=
  closeRecord_work ((updRecord_work h _ _).onReceipts) _

theorem setSlip_work (h : Work s t) (n p : Nat) (x : SlipState) : Work s (setSlip n p x t) :=
  updRecord_work h _ _

theorem beginSlip_work (h : Work s t) (e : SlipEntry) : Work s (beginSlip e t) :=
  (setSlip_work h _ _ _).onReceipts

theorem kick_work (h : Work s t) : Work s (kick t) := by
  unfold kick
  split
  · exact beginSlip_work h _
  · exact h

theorem copyDone_work (h : Work s t) : Work s (copyDone t) := by
  unfold copyDone
  split
  · exact h.onReceipts
  · split
    · exact beginSlip_work (h.onReceipts) _
    · exact kick_work (((setSlip_work h _ _ _).onReceipts).post _)

theorem slipLineDone_work (h : Work s t) : Work s (slipLineDone t) := by
  unfold slipLineDone
  split
  · exact h
  · dsimp only
    split
    · exact (h.advance _).onReceipts
    · exact copyDone_work (h.advance _)

theorem cutSlip_work (h : Work s t) : Work s (cutSlip t) := by
  unfold cutSlip
  split
  · exact h
  · exact (setSlip_work h _ _ _).onReceipts

theorem closeAll_work (h : Work s t) : Work s (closeAll t) := h.onReceipts (by simp)

/-! ### The Sender, the pass going on -/

theorem decidePass_work (h : Work s t) (o : PassOutcome) (r : Option Reason) : Work s (decidePass o r t) :=
  h.onPass

theorem enterKilling_work (h : Work s t) : Work s (enterKilling t) := scanEnd_work (h.onSender)

theorem secondFault_work (h : Work s t) (r : Reason) : Work s (secondFault r t) := h.onPass

theorem enterEnding_work (h : Work s t) : Work s (enterEnding t) := by
  unfold enterEnding
  split
  · exact h
  · exact scanEnd_work (h.onSender)

theorem postPause_work (h : Work s t) : Work s (postPause t) := by
  unfold postPause
  split
  · exact h
  · exact h.post _

theorem takePause_work (h : Work s t) (pt : ResumePoint) : Work s (takePause pt t) := by
  unfold takePause
  split
  · exact h
  · refine postPause_work (setCirc_work (h.onPass fun p => ?_) _ _)
    dsimp only
    split <;> rfl

theorem pauseChanged_work (h : Work s t) : Work s (pauseChanged t) := by
  unfold pauseChanged
  split
  · exact h
  · exact postPause_work (h.onSender)

theorem reasonEntered_work (h : Work s t) : Work s (reasonEntered t) := by
  unfold reasonEntered
  repeat' split
  all_goals first
    | exact h | exact pauseChanged_work h | exact takePause_work h _ | exact h.onPass

theorem addHold_work (h : Work s t) : Work s (addHold t) := reasonEntered_work (h.onPass)

theorem addBreak_work (h : Work s t) : Work s (addBreak t) := reasonEntered_work (h.onPass)

theorem dropStation_work (h : Work s t) (w : DropReason) (n : Nat) : Work s (dropStation w n t) := by
  unfold dropStation
  split
  · exact h
  · exact (updParty_work h _ _).post _

theorem lateReady_work (h : Work s t) (e : Party) : Work s (lateReady e t) := by
  unfold lateReady
  split
  · exact h
  · exact updParty_work (h.post _) _ _

theorem clearSilence_work (h : Work s t) (n : Nat) : Work s (clearSilence n t) :=
  updStation_work h n fun _ _ hn => ⟨Nat.zero_le _, hn⟩

theorem joinedReply_work (h : Work s t) (k : ReplyKind) (n : Nat) : Work s (joinedReply k n t) := by
  cases k
  case noise => exact updStation_work h n fun _ _ _ => ⟨Nat.zero_le _, Nat.min_le_left _ _⟩
  case stop => exact dropStation_work h _ _
  all_goals exact clearSilence_work h _

theorem joinStation_work (h : Work s t) (n r : Nat) : Work s (joinStation n r t) := by
  unfold joinStation
  split
  · exact h
  · exact clearSilence_work (((updParty_work h _ _).onPass).post _) _

theorem gatheringReply_work (h : Work s t) (k : ReplyKind) (n : Nat) : Work s (gatheringReply k n t) := by
  cases k
  case received => exact updParty_work h _ _
  case repeatPass => exact updParty_work h _ _
  all_goals exact h

theorem maskStation_work (h : Work s t) (n : Nat) : Work s (maskStation t n) := by
  unfold maskStation
  repeat' split
  all_goals first | exact h | exact dropStation_work h _ _ | exact updParty_work h _ _

theorem foldl_work {f : State → Nat → State} (hf : ∀ {s t n}, Work s t → Work s (f t n)) (h : Work s t)
    (ns : List Nat) : Work s (ns.foldl f t) := by
  induction ns generalizing t with
  | nil => exact h
  | cons n ns ih => exact ih (hf h)

theorem maskChanges_work (h : Work s t) (newly : List Nat) : Work s (maskChanges newly t) := by
  have hall := foldl_work (f := maskStation) (fun h => maskStation_work h _) h newly
  unfold maskChanges
  repeat' split
  all_goals first | exact h | exact hall

theorem watchStation_work (h : Work s t) (n : Nat) : Work s (watchStation t n) := by
  unfold watchStation
  split
  · exact h
  · have hcount : Work s (updStation n (fun e => { e with silence := countUp 12 e.silence }) t) :=
      updStation_work h n fun _ _ hn => ⟨Nat.min_le_left _ _, hn⟩
    dsimp only
    split
    · exact dropStation_work hcount _ _
    · exact hcount

theorem silenceWatch_work (h : Work s t) : Work s (silenceWatch t) := by
  unfold silenceWatch
  split
  · exact h
  · exact foldl_work (f := watchStation) (fun h => watchStation_work h _) h _

theorem clearResults_work (h : Work s t) : Work s (clearResults t) := h.onPass

theorem openWindow_work (h : Work s t) (r : Nat) : Work s (openWindow r t) :=
  h.onSender (by simp only [Option.map_map]; rfl)

theorem phasingMark_work (h : Work s t) (good : Bool) (p : Pass) : Work s (phasingMark good p t).1 := by
  unfold phasingMark
  dsimp only
  generalize (if good = true then p.phaseCount + 1 else p.phaseCount) = count
  have hcount : Work s (t.onPass fun p => { p with phaseCount := count }) := h.onPass
  split
  · exact takePause_work hcount _
  · split
    · dsimp only
      refine hcount.onSender ?_
      simp only [Option.map_map]
      rfl
    · split
      · dsimp only
        exact hcount.onPass
      · dsimp only
        exact hcount.onPass

theorem takeLine_work (h : Work s t) (p : Pass) : Work s (takeLine p t) :=
  (takeRecord_work h _).onPass

theorem senderSample_work (h : Work s t) (pos : Nat) : Work s (senderSample pos t) := by
  unfold senderSample
  split
  · exact h
  · split
    · exact h.onSender
    · refine Work.onSender ?_ rfl
      split
      · exact takeLine_work h _
      · exact h
    · exact h

/-! ### The index mark at the drive -/

theorem measureApproach_work (h : Work s t) (sp : Speed) (period : Nat) : Work s (measureApproach sp period t) := by
  unfold measureApproach
  split_ifs
  · refine h.onDrive fun _ ⟨hspin, _, hrest⟩ => ⟨hspin, ?_, hrest⟩
    show t.drive.lockCount + 1 ≤ 3
    omega
  · exact (h.onDrive fun _ ⟨hspin, _, _, hrest⟩ => ⟨hspin, le_rfl, Nat.zero_le _, hrest⟩).post _
  · exact h.onDrive fun _ ⟨hspin, _, hrest⟩ => ⟨hspin, Nat.zero_le _, hrest⟩
  · exact (h.onDrive fun _ ⟨hspin, _, hrest⟩ => ⟨hspin, Nat.zero_le _, hrest⟩).post _
  · exact (h.onDrive fun _ ⟨hspin, _, hrest⟩ => ⟨hspin, by simp, hrest⟩).post _
  · exact (h.onDrive fun _ ⟨hspin, _, hrest⟩ => ⟨hspin, by simp, hrest⟩).post _
  · exact h

theorem approachMark_work (h : Work s t) (period : Nat) : Work s (approachMark period t) := by
  unfold approachMark
  split
  · exact serveDrum_work (measureApproach_work h _ _)
  · exact h.onDriveSame

theorem clearFaultHold_work (h : Work s t) : Work s (clearFaultHold t) := by
  unfold clearFaultHold
  split
  · exact serve_work h.onDriveSame
  · exact h

theorem driveCoverOpen_work (h : Work s t) : Work s (driveCoverOpen t) :=
  (lampOff_work (abortRun_work (motorOff_work h))).onDriveSame fun loss => haltCarriage_within loss _

end Sys2Proof.Machine
end

section
/-! PROOFS. The binding of queue, load state and pass (R3, R6, R11, R20) on the little that it reads: the jobs' numbers
and states, the load state and the pass's owner. -/

namespace Sys2Proof.Machine

variable {s t u : State} {bs : List (Nat × JobState)} {load : LoadState} {o o' : Option (Nat × Bool)} {n : Nat}
  {st x : JobState}

/-! ### The agreement, and the queue at rest -/

/-- `State.bindingOk` on what it reads. -/
structure Agrees (bs : List (Nat × JobState)) (load : LoadState) (o : Option (Nat × Bool)) : Prop where
  distinct : (bs.map (·.1)).Nodup
  one : ∀ a ∈ bs, ∀ b ∈ bs, a.2 ≠ .queued → b.2 ≠ .queued → a = b
  bound : load = .bound ↔ ∃ b ∈ bs, b.2 ≠ .queued
  live : ∀ n, o = some (n, false) → (n, .active) ∈ bs

/-- No job is mounted, and no pass but a detached one runs. -/
structure AtRest (bs : List (Nat × JobState)) (o : Option (Nat × Bool)) : Prop where
  distinct : (bs.map (·.1)).Nodup
  queued : ∀ b ∈ bs, b.2 = .queued
  noPass : ∀ n, o ≠ some (n, false)

theorem length_le_one_iff {α : Type} {l : List α} (hl : l.Nodup) :
    l.length ≤ 1 ↔ ∀ a ∈ l, ∀ b ∈ l, a = b := by
  match l, hl with
  | [], _ => simp
  | [a], _ => simp
  | a :: b :: l, hl =>
    have hab : a ≠ b := by simp_all
    simp only [List.length_cons, Nat.reduceLeDiff, false_iff]
    exact fun h => hab (h a (by simp) b (by simp))

theorem bindingOk_iff : s.bindingOk ↔ Agrees s.bindings s.queue.load s.owner := by
  have hnumbers : s.bindings.map (·.1) = s.queue.jobs.map (·.number) := by
    simp [State.bindings, Job.binding, Function.comp_def]
  have hcount : (s.queue.jobs.filter fun j => j.state != .queued).length =
      (s.bindings.filter fun b => b.2 != .queued).length := by
    simp [State.bindings, List.filter_map, Function.comp_def, Job.binding]
  have hone : (s.bindings.map (·.1)).Nodup → ((s.bindings.filter fun b => b.2 != .queued).length ≤ 1 ↔
      ∀ a ∈ s.bindings, ∀ b ∈ s.bindings, a.2 ≠ .queued → b.2 ≠ .queued → a = b) := by
    intro h
    rw [length_le_one_iff ((List.Nodup.of_map _ h).filter _)]
    simp only [List.mem_filter, bne_iff_ne]
    exact ⟨fun h a ha b hb hqa hqb => h a ⟨ha, hqa⟩ b ⟨hb, hqb⟩, fun h a ⟨ha, hqa⟩ b ⟨hb, hqb⟩ => h a ha b hb hqa hqb⟩
  have hbound : (∃ j ∈ s.queue.jobs, j.state ≠ .queued) ↔ ∃ b ∈ s.bindings, b.2 ≠ .queued := by
    simp [State.bindings, Job.binding]
  have hlive : (∀ p, s.sender.pass = some p → p.detached = false →
      ∃ j ∈ s.queue.jobs, j.number = p.job ∧ j.state = .active) ↔
        ∀ n, s.owner = some (n, false) → (n, JobState.active) ∈ s.bindings := by
    cases hp : s.sender.pass with
    | none => simp [State.owner, hp]
    | some p =>
      simp only [State.owner, hp, Option.map_some, Option.some.injEq, forall_eq', Pass.owner, Prod.mk.injEq,
        State.bindings, List.mem_map, Job.binding, and_imp]
  constructor
  · rintro ⟨h1, h2, h3, h4⟩
    rw [← hnumbers] at h1
    exact ⟨h1, (hone h1).mp (hcount ▸ h2), h3.trans hbound, hlive.mp h4⟩
  · rintro ⟨h1, h2, h3, h4⟩
    exact ⟨hnumbers ▸ h1, hcount ▸ (hone h1).mpr h2, h3.trans hbound.symm, hlive.mpr h4⟩

theorem AtRest.agrees (h : AtRest bs o) (hl : load ≠ .bound) : Agrees bs load o where
  distinct := h.distinct
  one := fun a ha _ _ hqa _ => absurd (h.queued a ha) hqa
  bound := ⟨fun hb => absurd hb hl, fun ⟨b, hb, hq⟩ => absurd (h.queued b hb) hq⟩
  live := fun n hn => absurd hn (h.noPass n)

/-- Not BOUND, the queue is at rest. -/
theorem Agrees.atRest (h : Agrees bs load o) (hl : load ≠ .bound) : AtRest bs o := by
  have hq : ∀ b ∈ bs, b.2 = .queued := fun b hb => by
    by_contra hne
    exact hl (h.bound.mpr ⟨b, hb, hne⟩)
  exact ⟨h.distinct, hq, fun n hn => by simpa using hq _ (h.live n hn)⟩

/-- The pass in progress belongs to the one mounted job. -/
theorem Agrees.owner_eq (h : Agrees bs load o) (hm : (n, st) ∈ bs) (hq : st ≠ .queued) {m : Nat}
    (ho : o = some (m, false)) : m = n ∧ st = .active := by
  have := h.one _ (h.live m ho) _ hm (by simp) hq
  simpa [eq_comm] using this

theorem eq_of_number (hd : (bs.map (·.1)).Nodup) {a b : Nat × JobState} (ha : a ∈ bs) (hb : b ∈ bs)
    (hab : a.1 = b.1) : a = b := List.inj_on_of_nodup_map hd ha hb hab

/-! ### What the queue does to it -/

/-- The job of a number in another state. -/
def restate (n : Nat) (x : JobState) (bs : List (Nat × JobState)) : List (Nat × JobState) :=
  bs.map fun b => if b.1 = n then (n, x) else b

/-- The job of a number gone. -/
def without (n : Nat) (bs : List (Nat × JobState)) : List (Nat × JobState) := bs.filter fun b => b.1 != n

theorem restate_distinct (h : (bs.map (·.1)).Nodup) : ((restate n x bs).map (·.1)).Nodup := by
  have : (restate n x bs).map (·.1) = bs.map (·.1) := by
    simp only [restate, List.map_map]
    refine List.map_congr_left fun b _ => ?_
    simp only [Function.comp_apply]
    split <;> simp_all
  rwa [this]

theorem mem_restate {b : Nat × JobState} :
    b ∈ restate n x bs ↔ (b = (n, x) ∧ ∃ c ∈ bs, c.1 = n) ∨ (b ∈ bs ∧ b.1 ≠ n) := by
  simp only [restate, List.mem_map]
  constructor
  · rintro ⟨c, hc, rfl⟩
    split
    · exact .inl ⟨rfl, c, hc, ‹_›⟩
    · exact .inr ⟨hc, ‹_›⟩
  · rintro (⟨rfl, c, hc, hn⟩ | ⟨hb, hn⟩)
    · exact ⟨c, hc, if_pos hn⟩
    · exact ⟨b, hb, if_neg hn⟩

/-- The mounted job goes from one mounted state to another. -/
theorem Agrees.restate (h : Agrees bs load o) (hm : (n, st) ∈ bs) (hq : st ≠ .queued) (hx : x ≠ .queued)
    (ho : ∀ m, o' = some (m, false) → m = n ∧ x = .active) : Agrees (restate n x bs) load o' where
  distinct := restate_distinct h.distinct
  one := by
    have honly : ∀ b ∈ bs, b.1 ≠ n → b.2 = .queued := fun b hb hn => by
      by_contra hne
      exact hn (congrArg Prod.fst (h.one b hb _ hm hne hq))
    intro a ha b hb hqa hqb
    obtain ⟨rfl, -⟩ | ⟨ha, hna⟩ := mem_restate.mp ha
    · obtain ⟨rfl, -⟩ | ⟨hb, hnb⟩ := mem_restate.mp hb
      · rfl
      · exact absurd (honly b hb hnb) hqb
    · exact absurd (honly a ha hna) hqa
  bound := by
    refine ⟨fun _ => ⟨(n, x), mem_restate.mpr (.inl ⟨rfl, _, hm, rfl⟩), hx⟩, fun _ => h.bound.mpr ⟨_, hm, hq⟩⟩
  live := fun m hlive => by
    obtain ⟨rfl, rfl⟩ := ho m hlive
    exact mem_restate.mpr (.inl ⟨rfl, _, hm, rfl⟩)

/-- A job of the queue at rest is mounted. -/
theorem AtRest.mount (h : AtRest bs o) (hm : (n, st) ∈ bs) : Agrees (restate n .mounted bs) .bound o where
  distinct := restate_distinct h.distinct
  one := by
    intro a ha b hb hqa hqb
    obtain ⟨rfl, -⟩ | ⟨ha, -⟩ := mem_restate.mp ha
    · obtain ⟨rfl, -⟩ | ⟨hb, -⟩ := mem_restate.mp hb
      · rfl
      · exact absurd (h.queued b hb) hqb
    · exact absurd (h.queued a ha) hqa
  bound := ⟨fun _ => ⟨(n, .mounted), mem_restate.mpr (.inl ⟨rfl, _, hm, rfl⟩), by simp⟩, fun _ => rfl⟩
  live := fun m hm => absurd hm (h.noPass m)

/-- The mounted job back to QUEUED leaves the queue at rest. -/
theorem Agrees.dismount (h : Agrees bs load o) (hm : (n, st) ∈ bs) (hq : st ≠ .queued) (ha : st ≠ .active) :
    AtRest (Machine.restate n .queued bs) o where
  distinct := restate_distinct h.distinct
  queued := by
    intro b hb
    obtain ⟨rfl, -⟩ | ⟨hb, hn⟩ := mem_restate.mp hb
    · rfl
    · by_contra hne
      exact hn (congrArg Prod.fst (h.one b hb _ hm hne hq))
  noPass := fun _ ho => ha (h.owner_eq hm hq ho).2

/-- The mounted job gone leaves no job mounted. -/
theorem Agrees.remove (h : Agrees bs load o) (hm : (n, st) ∈ bs) (hq : st ≠ .queued)
    (ho : ∀ m, o' ≠ some (m, false)) : AtRest (without n bs) o' where
  distinct := h.distinct.sublist (List.filter_sublist.map _)
  queued := by
    intro b hb
    obtain ⟨hb, hn⟩ := List.mem_filter.mp hb
    by_contra hne
    exact (bne_iff_ne.mp hn) (congrArg Prod.fst (h.one b hb _ hm hne hq))
  noPass := ho

/-- A QUEUED job gone leaves the agreement. -/
theorem Agrees.removeQueued (h : Agrees bs load o) (hm : (n, .queued) ∈ bs) : Agrees (without n bs) load o := by
  have hstays : ∀ b ∈ bs, b.2 ≠ .queued → b ∈ without n bs := fun b hb hq => by
    refine List.mem_filter.mpr ⟨hb, bne_iff_ne.mpr fun hn => hq ?_⟩
    rw [eq_of_number h.distinct hb hm hn]
  refine ⟨h.distinct.sublist (List.filter_sublist.map _), ?_, ?_, fun m hlive => hstays _ (h.live m hlive) (by simp)⟩
  · exact fun a ha b hb => h.one a (List.mem_of_mem_filter ha) b (List.mem_of_mem_filter hb)
  · exact h.bound.trans ⟨fun ⟨b, hb, hq⟩ => ⟨b, hstays b hb hq, hq⟩, fun ⟨b, hb, hq⟩ => ⟨b, List.mem_of_mem_filter hb, hq⟩⟩

/-- A job of a free number joins. -/
theorem Agrees.join (h : Agrees bs load o) (hn : ∀ b ∈ bs, b.1 ≠ n) : Agrees (bs ++ [(n, .queued)]) load o where
  distinct := by
    rw [List.map_append, List.nodup_append]
    refine ⟨h.distinct, by simp, ?_⟩
    simp only [List.mem_map, List.map_cons, List.map_nil, List.mem_singleton]
    rintro _ ⟨b, hb, rfl⟩ _ rfl
    exact hn b hb
  one := by
    intro a ha b hb hqa hqb
    simp only [List.mem_append, List.mem_singleton] at ha hb
    refine h.one a (ha.resolve_right ?_) b (hb.resolve_right ?_) hqa hqb
    · rintro rfl; exact hqa rfl
    · rintro rfl; exact hqb rfl
  bound := by simp [h.bound]
  live := fun m hm => List.mem_append_left _ (h.live m hm)

/-! ### The same of the queue's operations -/

theorem updJob_bindings (n : Nat) {f : Job → Job} (hf : ∀ j, (f j).number = j.number ∧ (f j).state = x) :
    (updJob n f s).bindings = restate n x s.bindings := by
  simp only [State.bindings, updJob, State.onQueue_queue, restate, List.map_map]
  refine List.map_congr_left fun j _ => ?_
  simp only [Function.comp_apply, Job.binding]
  by_cases hn : j.number = n
  · simp [hn, hf]
  · simp [hn]

theorem filter_bindings (n : Nat) :
    (s.queue.jobs.filter fun j => j.number != n).map Job.binding = without n s.bindings := by
  simp only [State.bindings, without, List.filter_map, Function.comp_def, Job.binding]

theorem findJob_bindings {j : Job} (h : s.findJob n = some j) : j.number = n ∧ (n, j.state) ∈ s.bindings := by
  have hn : j.number = n := by simpa using List.find?_some h
  exact ⟨hn, List.mem_map.mpr ⟨j, List.mem_of_find?_eq_some h, by rw [Job.binding, hn]⟩⟩

theorem mem_bindings_of_find {p : Job → Bool} {j : Job} (h : s.queue.jobs.find? p = some j) :
    (j.number, j.state) ∈ s.bindings :=
  List.mem_map.mpr ⟨j, List.mem_of_find?_eq_some h, rfl⟩

theorem findJob_isSome (hm : (n, st) ∈ s.bindings) : ∃ j, s.findJob n = some j := by
  obtain ⟨j, hj, hb⟩ := List.mem_map.mp hm
  exact Option.isSome_iff_exists.mp (List.find?_isSome.mpr ⟨j, hj, beq_iff_eq.mpr (congrArg Prod.fst hb)⟩)

end Sys2Proof.Machine
end

section
/-! PROOFS. What a step keeps (R2, R3, R6, R11, R26, R36, R40, R48, R54, R65, R75, R79, R80, R92, R103, R153, R186):
`Keeps s t` says that the capacities, the distance of the references and the binding of queue and pass go over
from `s` to `t`. One lemma for each operation that releases, binds, starts or closes, and for those above them. -/

namespace Sys2Proof.Machine

variable {s t u : State} {st : JobState}

/-! ### What is kept -/

/-- From `s` to `t` every block stays within its limits and the references stay apart. -/
structure Holds (s t : State) : Prop where
  store : s.scan.Within → t.scan.Within
  circuit : s.circuit.Within → t.circuit.Within
  drive : ∀ loss, 2 ≤ loss → s.drive.Within loss → t.drive.Within loss
  cal : s.cal.Within → t.cal.Within
  queue : s.queueBounded → t.queueBounded
  apart : s.scan.Apart ∧ s.cal.Apart → t.scan.Apart ∧ t.cal.Apart

/-- And the binding of queue, load state and pass goes over. -/
structure Keeps (s t : State) : Prop extends Holds s t where
  binding : s.queueBounded → s.bindingOk → t.bindingOk

theorem Holds.trans (h : Holds s t) (k : Holds t u) : Holds s u where
  store := k.store ∘ h.store
  circuit := k.circuit ∘ h.circuit
  drive := fun loss h2 hd => k.drive loss h2 (h.drive loss h2 hd)
  cal := k.cal ∘ h.cal
  queue := k.queue ∘ h.queue
  apart := k.apart ∘ h.apart

theorem Keeps.trans (h : Keeps s t) (k : Keeps t u) : Keeps s u :=
  ⟨h.toHolds.trans k.toHolds, fun hq hb => k.binding (h.queue hq) (h.binding hq hb)⟩

theorem Work.holds (w : Work s t) : Holds s t where
  store := w.scan.1
  circuit := w.circuit
  drive := fun loss _ => w.drive loss
  cal := w.cal.1
  queue := by
    have hlen : t.queue.jobs.length = s.queue.jobs.length := by
      simpa [State.bindings] using congrArg List.length w.bindings
    simp only [State.queueBounded, hlen, w.log, w.counter, imp_self]
  apart := fun ⟨hs, hc⟩ => ⟨w.scan.2 hs, w.cal.2 hc⟩

theorem Work.bindingOk (w : Work s t) (hb : s.bindingOk) : t.bindingOk := by
  rw [bindingOk_iff] at hb ⊢
  rwa [w.bindings, w.load, w.owner]

theorem Work.keeps (w : Work s t) : Keeps s t := ⟨w.holds, fun _ => w.bindingOk⟩

theorem Keeps.refl (s : State) : Keeps s s := (Work.refl s).keeps

theorem Keeps.work (h : Keeps s t) (w : Work t u) : Keeps s u := h.trans w.keeps

/-- A change of the queue alone. -/
theorem Holds.onQueue {f : Queue → Queue} (hlen : (f s.queue).jobs.length ≤ s.queue.jobs.length) :
    Holds s (s.onQueue f) :=
  ⟨id, id, fun _ _ => id, id, fun ⟨h8, hrest⟩ => ⟨hlen.trans h8, hrest⟩, id⟩

theorem updJob_holds (n : Nat) (f : Job → Job) : Holds s (updJob n f s) := Holds.onQueue (by simp)

/-! ### A release (R15) -/

/-- The entry to RELEASED of a job that is MOUNTED or FINISHED. -/
theorem release_keeps {j : Job} (why : ReleaseCause) (hj : (j.number, st) ∈ s.bindings)
    (hst : st = .mounted ∨ st = .finished) : Keeps s (release why j s) := by
  have hbase : Keeps s (updJob j.number
      (fun j => { j with state := .released, pendingTrigger := false, calTried := false }) s) := by
    refine ⟨updJob_holds _ _, fun _ hb => ?_⟩
    rw [bindingOk_iff] at hb ⊢
    have hq : st ≠ .queued := by rcases hst with rfl | rfl <;> simp
    rw [updJob_bindings (x := .released) j.number (by exact fun _ => ⟨rfl, rfl⟩)]
    refine hb.restate hj hq (by simp) fun m hm => ?_
    have := (hb.owner_eq hj hq hm).2
    rcases hst with rfl | rfl <;> cases this
  exact hbase.work (raiseQueueWant_work (((Work.refl _).onQueue rfl rfl).post _) _)

/-! ### A job leaves the queue (R24) -/

theorem leaveQueue_holds (j : Job) : Holds s (leaveQueue j s) := by
  have hbase : Holds s (s.onQueue fun q => { q with jobs := q.jobs.filter fun k => k.number != j.number }) :=
    Holds.onQueue (List.length_filter_le _ _)
  unfold leaveQueue
  dsimp only
  split
  · exact hbase.trans (closeRecord_work (Work.refl _) _).holds
  · have hwant := hbase.trans
      (withdrawQueueWant_work ((Work.refl _).onQueue (f := fun q => { q with missing := [] }) rfl rfl)).holds
    split
    · exact hwant.trans (closeRecord_work (Work.refl _) _).holds
    · exact (hwant.trans (Holds.onQueue (f := fun q => { q with load := .unbound }) le_rfl)).trans
        (closeRecord_work ((Work.refl _).post _) _).holds

/-- A job leaves: its record is gone; bound, it leaves the print unbound where the cover is closed. -/
theorem leaveQueue_bindings (j : Job) :
    (leaveQueue j s).bindings = without j.number s.bindings ∧
      (leaveQueue j s).owner = s.owner ∧
      (leaveQueue j s).queue.load =
        if j.state = .queued ∨ s.queue.load = .coverOpen then s.queue.load else .unbound := by
  unfold leaveQueue
  dsimp only
  set t := s.onQueue fun q => { q with jobs := q.jobs.filter fun k => k.number != j.number } with ht
  have hbase : t.bindings = without j.number s.bindings := filter_bindings j.number
  split
  next hq =>
    have w := closeRecord_work (Work.refl t) j.number
    exact ⟨w.bindings.trans hbase, w.owner, w.load.trans (by simp [ht, hq])⟩
  next hq =>
    have w := withdrawQueueWant_work ((Work.refl t).onQueue (f := fun q => { q with missing := [] }) rfl rfl)
    set v := withdrawQueueWant (t.onQueue fun q => { q with missing := [] })
    have hload : v.queue.load = s.queue.load := w.load
    split
    next hopen =>
      have w' := closeRecord_work w j.number
      have : s.queue.load = .coverOpen := by simpa [State.coverOpen, hload] using hopen
      exact ⟨w'.bindings.trans hbase, w'.owner, w'.load.trans (by simp [ht, this])⟩
    next hopen =>
      have w' := closeRecord_work ((Work.refl (v.onQueue fun q => { q with load := .unbound })).post .loadUnbound)
        j.number
      have : s.queue.load ≠ .coverOpen := by simpa [State.coverOpen, hload] using hopen
      exact ⟨w'.bindings.trans (w.bindings.trans hbase), w'.owner.trans w.owner, w'.load.trans (by simp [hq, this])⟩

/-- The agreement after a job has left that had no live pass. -/
theorem leaveQueue_keeps {j : Job} (hj : (j.number, j.state) ∈ s.bindings) (ha : j.state ≠ .active) :
    Keeps s (leaveQueue j s) := by
  refine ⟨leaveQueue_holds j, fun _ hb => ?_⟩
  rw [bindingOk_iff] at hb ⊢
  obtain ⟨hbs, ho, hl⟩ := leaveQueue_bindings (s := s) j
  rw [hbs, ho, hl]
  by_cases hq : j.state = .queued
  · rw [if_pos (.inl hq)]
    exact hb.removeQueued (hq ▸ hj)
  · refine (hb.remove hj hq fun m hm => ha (hb.owner_eq hj hq hm).2).agrees ?_
    split
    next h => simp [h.resolve_left hq]
    next => simp

/-! ### The close of a pass (R131, R21) -/

theorem passEndQueue_holds (n : Nat) (o : PassOutcome) : Holds s (passEndQueue n o s) := by
  have hwant := (withdrawQueueWant_work (Work.refl s)).holds
  unfold passEndQueue
  dsimp only
  split
  · split
    · exact hwant
    · exact hwant.trans (leaveQueue_holds _)
  · exact hwant.trans (updJob_holds _ _)

/-- The ACTIVE job is FINISHED or gone, and the load state goes with it. -/
theorem passEndQueue_agrees {n : Nat} (o : PassOutcome) (hb : s.bindingOk) (hn : (n, .active) ∈ s.bindings) :
    Agrees (passEndQueue n o s).bindings (passEndQueue n o s).queue.load none := by
  have w := withdrawQueueWant_work (Work.refl s)
  unfold passEndQueue
  dsimp only
  set t := withdrawQueueWant s
  have hn' : (n, JobState.active) ∈ t.bindings := by rw [w.bindings]; exact hn
  have ht : Agrees t.bindings t.queue.load t.owner := bindingOk_iff.mp (w.bindingOk hb)
  split
  · obtain ⟨j, hf⟩ := findJob_isSome hn'
    obtain ⟨hnum, hj⟩ := findJob_bindings hf
    have hactive : j.state = .active := by
      simpa using eq_of_number ht.distinct hj hn' rfl
    obtain ⟨hbs, -, hl⟩ := leaveQueue_bindings (s := t) j
    simp only [hf]
    rw [hbs, hl, hnum]
    refine (ht.remove hn' (by simp) (by simp)).agrees ?_
    split
    next h =>
      rcases h with h | h
      · simp [hactive] at h
      · simp [h]
    next => simp
  · rw [updJob_bindings (x := .finished) n (by exact fun _ => ⟨rfl, rfl⟩)]
    exact ht.restate hn' (by simp) (by simp) (by simp)

/-- The close of a pass leaves none. -/
theorem closePass_keeps (h : Keeps s t) : Keeps s (closePass t) := by
  unfold closePass
  split
  · exact h
  next p hp =>
    refine h.trans ?_
    dsimp only
    set o := p.outcome.getD .failed
    set u := post (.passEnd p.job p.number o p.reason) (completePass p.closed o (stopRounds (scanEnd t))) with hu
    have w : Work t u := (completePass_work (stopRounds_work (scanEnd_work (Work.refl t))) _ _).post _
    have hlast : ∀ v : State, Holds v (((setCirc (if v.breakPresent then .broken else .free) .silent v).onSender
        fun x => { x with pass := none }).onScan fun c => { c with pass := none }) := fun v =>
      ⟨fun hc => by simp [Scan.Within] at hc ⊢; omega, id, fun _ _ => id, id, id, id⟩
    refine ⟨Holds.trans (t := if p.detached then u else passEndQueue p.job o u) ?_ (hlast _), fun _ hb => ?_⟩
    · split
      · exact w.holds
      · exact w.holds.trans (passEndQueue_holds _ _)
    · rw [bindingOk_iff]
      show Agrees (State.bindings (if p.detached then u else passEndQueue p.job o u))
        (if p.detached then u else passEndQueue p.job o u).queue.load none
      have hbu := w.bindingOk hb
      split
      next hd =>
        rw [bindingOk_iff] at hbu
        exact ⟨hbu.distinct, hbu.one, hbu.bound, by simp⟩
      next hd =>
        refine passEndQueue_agrees o hbu ?_
        rw [w.bindings]
        exact (bindingOk_iff.mp hb).live p.job (by simp [State.owner, hp, Pass.owner, hd])

theorem terminate_keeps (h : Keeps s t) (o : PassOutcome) (r : Option Reason) (signal : Bool) :
    Keeps s (terminate o r signal t) := by
  have hdecided := h.work (decidePass_work (Work.refl t) o r)
  unfold terminate
  split
  · exact hdecided.work (enterKilling_work (Work.refl _))
  · exact closePass_keeps hdecided

theorem failPass_keeps (h : Keeps s t) (r : Reason) : Keeps s (failPass r t) := by
  have hsecond := h.work (secondFault_work (Work.refl t) r)
  unfold failPass
  split
  · exact h
  · split
    · exact h
    · exact terminate_keeps h _ _ _
    · exact terminate_keeps h _ _ _
    · split
      · exact terminate_keeps h _ _ _
      · exact hsecond
    · exact hsecond

/-! ### Call-up, pauses and the party -/

theorem enterCallup_keeps (h : Keeps s t) : Keeps s (enterCallup t) := by
  unfold enterCallup
  split
  · exact h
  next p hp =>
    have hcall : ∀ {f : Pass → Pass}, (∀ q, (f q).owner = q.owner) →
        Keeps s (passToDrive ((startRounds p.copy.slots t).onPass f)) := fun hf =>
      h.work (passToDrive_work ((startRounds_work (Work.refl t) _).onPass hf))
    dsimp only
    split
    · exact failPass_keeps ((hcall (by exact fun _ => rfl)).work (setCirc_work (Work.refl _) _ _)) _
    · exact (hcall (by exact fun _ => rfl)).work ((Work.refl _).onSender (by rfl))

theorem resumeAt_keeps (h : Keeps s t) (pt : ResumePoint) : Keeps s (resumeAt pt t) := by
  unfold resumeAt
  split
  · exact h
  next p hp =>
    have hresumed := h.work (((Work.refl t).onPass (f := fun p => { p with resume := none })).post (.resume p.job pt))
    dsimp only
    split
    · exact hresumed.work ((setCirc_work (Work.refl _) _ _).onPass)
    · exact hresumed.work ((setCirc_work (Work.refl _) _ _).onPass)
    · exact enterCallup_keeps hresumed
    · exact hresumed.work (enterEnding_work (Work.refl _))
    · exact hresumed.work (setCirc_work (Work.refl _) _ _)

theorem reasonLeft_keeps (h : Keeps s t) : Keeps s (reasonLeft t) := by
  unfold reasonLeft
  repeat' split
  all_goals first
    | exact h
    | exact h.work (pauseChanged_work (Work.refl t))
    | exact resumeAt_keeps h _
    | exact h.work ((Work.refl t).onSender)
    | exact h.work ((Work.refl t).onPass)

theorem removeHold_keeps (h : Keeps s t) : Keeps s (removeHold t) :=
  reasonLeft_keeps (h.work ((Work.refl t).onPass))

theorem removeBreak_keeps (h : Keeps s t) : Keeps s (removeBreak t) :=
  reasonLeft_keeps (h.work ((Work.refl t).onPass))

theorem senderBreakOn_keeps (h : Keeps s t) : Keeps s (senderBreakOn t) := by
  unfold senderBreakOn
  split
  · split
    · exact h.work (setCirc_work (Work.refl t) _ _)
    · exact h
  · split
    · exact closePass_keeps h
    · exact h.work (addBreak_work (Work.refl t))

theorem senderBreakOff_keeps (h : Keeps s t) : Keeps s (senderBreakOff t) := by
  unfold senderBreakOff
  split
  · split
    · exact h.work (setCirc_work (Work.refl t) _ _)
    · exact h
  · split
    · exact removeBreak_keeps h
    · exact h

theorem noPartyTest_keeps (h : Keeps s t) : Keeps s (noPartyTest t) := by
  unfold noPartyTest
  split
  · exact h
  · split
    · exact h
    · exact failPass_keeps h _

theorem joinedReplyTested_keeps (h : Keeps s t) (k : ReplyKind) (n : Nat) :
    Keeps s (joinedReplyTested k n t) := by
  have hreply := h.work (joinedReply_work (Work.refl t) k n)
  unfold joinedReplyTested
  split
  · exact noPartyTest_keeps hreply
  · exact hreply

theorem partyReply_keeps (h : Keeps s t) (k : ReplyKind) (e : Party) (r : Nat) (p : Pass) :
    Keeps s (partyReply k e r p t) := by
  have hreply := h.work (joinedReply_work (Work.refl t) k e.station)
  have htested := joinedReplyTested_keeps h k e.station
  have hgather := h.work (gatheringReply_work (Work.refl t) k e.station)
  unfold partyReply
  repeat' split
  all_goals first
    | exact h
    | exact h.work (lateReady_work (Work.refl t) e)
    | exact hreply
    | exact htested
    | exact hgather
    | exact h.work (joinStation_work (Work.refl t) _ _)

theorem senderSlot_keeps (h : Keeps s t) (owner round : Nat) (res : SlotResult) :
    Keeps s (senderSlot owner round res t) := by
  have hnoted := h.work (updParty_work (Work.refl t) owner fun e => { e with result := some res })
  unfold senderSlot
  repeat' split
  all_goals first | exact h | exact hnoted | exact partyReply_keeps hnoted _ _ _ _

theorem closeWindow_keeps (h : Keeps s t) : Keeps s (closeWindow t) := by
  unfold closeWindow
  dsimp only
  have hclosed := h.work ((Work.refl t).onPass (f := fun p =>
    { p with
      windowOpen := false
      party := p.party.map fun e => if e.state = .invited then { e with state := .absent } else e }))
  split
  · exact hclosed
  · split
    · exact hclosed
    · split
      · exact failPass_keeps hclosed _
      · exact failPass_keeps hclosed _

theorem gatherRound_keeps (h : Keeps s t) : Keeps s (gatherRound t) := by
  unfold gatherRound
  split
  · exact h
  · have hcount := h.work ((Work.refl t).onPass (f := fun p => { p with gatherCount := p.gatherCount + 1 }))
    dsimp only
    split
    · exact closePass_keeps (hcount.work ((Work.refl _).onPass))
    · exact hcount

theorem roundEndTest_keeps (h : Keeps s t) (p : Pass) : Keeps s (roundEndTest p t) := by
  unfold roundEndTest
  split
  · exact noPartyTest_keeps h
  · exact h

theorem senderRoundEnd_keeps (h : Keeps s t) (round : Nat) (newly : List Nat) (brk : Bool) :
    Keeps s (senderRoundEnd round newly brk t) := by
  have hmask := h.work (maskChanges_work (Work.refl t) newly)
  have hclear : ∀ {v}, Keeps s v → Keeps s (clearResults v) := fun hv =>
    hv.work (clearResults_work (Work.refl _))
  have hopen := hmask.work (openWindow_work (Work.refl _) round)
  have hwatch := hmask.work (silenceWatch_work (Work.refl _))
  unfold senderRoundEnd
  dsimp only
  split
  · exact h
  · split
    · split
      · refine hclear ?_
        split
        · exact hmask
        · exact hopen
      · exact hmask
    · split
      · refine hclear ?_
        split
        · exact closeWindow_keeps hmask
        · exact hmask
      · exact roundEndTest_keeps (hclear hmask) _
    · refine roundEndTest_keeps (hclear ?_) _
      split
      · exact hmask
      · exact hwatch
    · refine roundEndTest_keeps (hclear ?_) _
      split
      · exact hmask
      · exact hwatch
    · split
      · exact hmask
      · split
        · exact roundEndTest_keeps (hclear hmask) _
        · exact hclear hmask
    · split
      · exact hclear hmask
      · exact gatherRound_keeps (hclear hmask)
    all_goals first | exact hclear hmask | exact hmask

/-! ### The index mark at the Sender -/

theorem postProgress_keeps (h : Keeps s t) (l : SentLine) (p : Pass) : Keeps s (postProgress l p t) := by
  unfold postProgress
  split
  · exact h.work ((Work.refl t).post _)
  · exact h

/-- The line completed is that of the pass in progress. -/
theorem completeLine_keeps (h : Keeps s t) (l : SentLine) {p : Pass} (hp : t.sender.pass = some p) :
    Keeps s (completeLine l p t).1 := by
  have hcount : Keeps s (t.onPass fun _ => countLine l p) :=
    h.work ((Work.refl t).onSender (by simp [hp, countLine, Pass.owner]))
  have hfailed := postProgress_keeps (failPass_keeps hcount .fills) l (countLine l p)
  have hgoes := postProgress_keeps hcount l (countLine l p)
  have hending := hgoes.work (enterEnding_work (Work.refl _))
  unfold completeLine
  by_cases hfills : 4 ≤ p.consecFills
  · simpa only [hfills, decide_true, if_true] using hfailed
  · simp only [hfills, decide_false, Bool.false_eq_true, if_false]
    split
    · dsimp only
      split
      · exact hending.work (takePause_work (Work.refl _) _)
      · exact hending
    · split
      · exact hgoes.work (takePause_work (Work.refl _) _)
      · exact hgoes

theorem senderIndex_keeps (h : Keeps s t) (good : Bool) : Keeps s (senderIndex good t).1 := by
  unfold senderIndex
  split
  · exact h
  next p hp =>
    split
    · split
      · exact h.work ((setCirc_work (Work.refl t) _ _).onPass)
      · exact h
    · exact h.work (phasingMark_work (Work.refl t) _ _)
    · split
      · exact h
      · exact completeLine_keeps h _ hp
    · split
      · exact h
      · split
        · exact resumeAt_keeps h .rephase
        · exact resumeAt_keeps h .phasing
        · exact h
    · exact h

end Sys2Proof.Machine
end

section
/-! PROOFS. What a step keeps, continued: the start of a job, the events of drum, circuit and cover, the requests,
the supply, and from them every command. -/

namespace Sys2Proof.Machine

variable {s t u : State} {st : JobState}

/-! ### The start of a job (R16 to R20) -/

theorem eraseP_length_of_any {α : Type} {p : α → Bool} {l : List α} (h : l.any p = true) :
    (l.eraseP p).length + 1 = l.length := by
  obtain ⟨a, ha, hp⟩ := List.any_eq_true.mp h
  have := List.length_eraseP_of_mem ha hp
  have := List.length_pos_of_mem ha
  omega

/-- A record is opened only where one can be had (R16, R154). -/
theorem recordStart_holds {j : Job} (h : s.recordAvailable j = true) : Holds s (recordStart j s) := by
  have hcap : Config.logCap = 16 := rfl
  unfold recordStart
  split
  next hone =>
    refine ⟨id, id, fun _ _ => id, id, fun ⟨hjobs, hlog, hcounter⟩ => ⟨hjobs, ?_, hcounter⟩, id⟩
    show (_ : List Record).length ≤ 16
    simp only [openRecord, State.onReceipts_receipts, List.length_append, List.length_singleton]
    split
    next hlt => omega
    next hlt =>
      have hany : s.receipts.log.any Record.reclaimable = true := by
        simpa [State.recordAvailable, hone, hlt] using h
      have := eraseP_length_of_any hany
      omega
  · exact (updRecord_work (Work.refl s) _ _).holds

/-- The running references take those of the calibration (R52). -/
theorem scanBegin_holds (j : Job) : Holds s (scanBegin j s) :=
  ⟨fun hc => by simp [Scan.Within] at hc ⊢; simp [scanBegin, scanContext]; omega, id, fun _ _ => id, id, id,
    fun ⟨_, hc⟩ => ⟨hc, hc⟩⟩

theorem startJob_keeps {j : Job} (hj : (j.number, .released) ∈ s.bindings) (hr : s.recordAvailable j = true) :
    Keeps s (startJob j s) := by
  unfold startJob
  dsimp only
  set a := (updJob j.number (fun j => { j with state := .active }) s).onQueue fun q => { q with missing := [] }
  have ha : Holds s a := (updJob_holds _ _).trans (Holds.onQueue le_rfl)
  have hbase : Keeps s ((scanBegin j (recordStart j a)).onSender fun x =>
      { x with pass := some (freshPassRecord j s.settings.guarded) }) := by
    refine ⟨(ha.trans ((recordStart_holds (s := a) hr).trans (scanBegin_holds j))).trans
      ⟨id, id, fun _ _ => id, id, id, id⟩, fun _ hb => ?_⟩
    have hqueue : (recordStart j a).queue = a.queue := by
      unfold recordStart
      split <;> rfl
    rw [bindingOk_iff] at hb ⊢
    show Agrees ((recordStart j a).queue.jobs.map Job.binding) (recordStart j a).queue.load
      (some (j.number, false))
    rw [hqueue]
    show Agrees (updJob j.number (fun j => { j with state := .active }) s).bindings s.queue.load _
    rw [updJob_bindings (x := .active) j.number (by exact fun _ => ⟨rfl, rfl⟩)]
    refine hb.restate hj (by simp) (by simp) fun m hm => ⟨?_, rfl⟩
    simpa [eq_comm] using hm
  exact enterCallup_keeps (hbase.work ((Work.refl _).post _))

theorem autoCalibrate_work (h : Work s t) (j : Job) : Work s (autoCalibrate j t) := by
  unfold autoCalibrate
  split
  · exact askCalibration_work (updJob_work h _ fun _ => rfl)
  · exact h

theorem missingCauses_nil {j : Job} (h : s.missingCauses j = []) : s.recordAvailable j = true := by
  simp only [State.missingCauses, List.append_eq_nil_iff] at h
  by_contra hne
  simp [hne] at h

theorem startTest_keeps {j : Job} (hj : (j.number, .released) ∈ s.bindings) : Keeps s (startTest j s) := by
  unfold startTest
  dsimp only
  split
  next hnone => exact startJob_keeps hj (missingCauses_nil hnone)
  · split
    · exact Keeps.refl s
    · exact (((Work.refl s).onQueue rfl rfl).post _).keeps

theorem releasedJob_bindings {j : Job} (h : s.releasedJob = some j) : (j.number, .released) ∈ s.bindings := by
  have hst : j.state = .released := by simpa using List.find?_some h
  exact hst ▸ mem_bindings_of_find h

theorem settle_keeps (h : Keeps s t) : Keeps s (settle t) := by
  unfold settle
  split
  · exact h
  next j hj =>
    have w := autoCalibrate_work (Work.refl t) j
    refine (h.work w).trans (startTest_keeps ?_)
    rw [w.bindings]
    exact releasedJob_bindings hj

theorem conclude_keeps (h : Keeps s t) : Keeps s (conclude t) := (settle_keeps h).work (kick_work (Work.refl _))

theorem pump_work (h : Work s t) : Work s (pump t) := h.onLink _

theorem pump_keeps (h : Keeps s t) : Keeps s (pump t) := h.work (pump_work (Work.refl t))

theorem finish_keeps (h : Keeps s t) : Keeps s (finish t) := pump_keeps (conclude_keeps h)

/-! ### The return channel -/

theorem roundEnd_keeps (h : Keeps s t) (r : Rounds) : Keeps s (roundEnd r t) := by
  unfold roundEnd
  split
  · exact senderRoundEnd_keeps (h.work (applyMask_work (Work.refl t))) _ _ _
  · exact h

theorem slotEnd_keeps (h : Keeps s t) : Keeps s (slotEnd t) := by
  unfold slotEnd
  split
  · exact h
  next r hr =>
    have hcount := h.work (countGarble_work ((Work.refl t).advance r.slotEnds) (decideSlot r))
    exact (roundEnd_keeps (senderSlot_keeps hcount _ _ _) r).work (onRounds_work (Work.refl _) _)

theorem toneOn_work (h : Work s t) : Work s (toneOn t) := by
  refine h.onCircuit ?_
  split <;> exact id

theorem toneOff_work (h : Work s t) : Work s (toneOff t) := by
  refine h.onCircuit ?_
  split <;> exact id

theorem armingExpiry_keeps (h : Keeps s t) : Keeps s (armingExpiry t) := by
  unfold armingExpiry
  split
  · exact senderBreakOn_keeps (h.work
      ((onRounds_work (((Work.refl t).advance _).onCircuit (by exact id)) _).post _))
  · exact h

theorem endingExpiry_keeps (h : Keeps s t) : Keeps s (endingExpiry t) := by
  unfold endingExpiry
  split
  · exact senderBreakOff_keeps (h.work ((((Work.refl t).advance _).onCircuit (by exact id)).post _))
  · exact h

/-! ### Drum, carriage and lamp -/

theorem carriageFault_keeps (h : Keeps s t) : Keeps s (carriageFault t) := by
  unfold carriageFault
  dsimp only
  split
  · exact h.work (((Work.refl t).post _).onDriveSame)
  · exact failPass_keeps (h.work ((Work.refl t).post _)) _

/-- What a drive fault does once the motor is off (R32). -/
theorem driveFault_stopped (k : DrumFault) :
    Keeps ((motorOff (post (.drumFault k) s)).onDrive fun d => { d with faultHold := true, pendingStart := false })
      (driveFault k s) :=
  (failPass_keeps (calDriveFault_work (Work.refl _)).keeps .drive).work (clearFaultHold_work (Work.refl _))

theorem driveFault_keeps (h : Keeps s t) (k : DrumFault) : Keeps s (driveFault k t) :=
  (h.work ((motorOff_work ((Work.refl t).post _)).onDriveSame)).trans (driveFault_stopped k)

/-- The motor off leaves a loss count of 0, whatever it was (R32). -/
theorem motorOff_within {loss : Nat} (hd : s.drive.Within loss) (k : Nat) : (motorOff s).drive.Within k := by
  obtain ⟨hspin, -, -, hstep, htemp⟩ := hd
  rw [motorOff_eq]
  exact ⟨hspin, Nat.zero_le _, Nat.zero_le _, hstep, htemp⟩

theorem stepFault_keeps (h : Keeps s t) : Keeps s (stepFault t) := by
  have hspoiled := h.work (spoilLine_work ((Work.refl t).onDrive (f := fun d =>
    { d with stepWaiting := false, stepFaults := min 3 (d.stepFaults + 1) })
    fun _ ⟨hspin, hlock, hloss, _, htemp⟩ => ⟨hspin, hlock, hloss, Nat.min_le_left _ _, htemp⟩))
  unfold stepFault
  dsimp only
  split
  · exact carriageFault_keeps hspoiled
  · exact hspoiled

theorem handIndex_keeps (h : Keeps s t) (locked good : Bool) : Keeps s (handIndex locked good t) := by
  have hclosed := h.work ((Work.refl t).onScan (closeLine_keeps good t.scan))
  exact (senderIndex_keeps hclosed good).work (calIndex_work (beginLine_work (Work.refl _) _ _) _ _)

theorem lossAfter_le (sp : Speed) (period loss : Nat) : lossAfter sp period loss ≤ loss + 1 := by
  unfold lossAfter
  split <;> omega

/-- The loss count raised to at most its limit keeps what is kept. -/
theorem setLoss_keeps (loss : Nat) (h : loss ≤ 2) (pos : Option Nat) :
    Keeps s (s.onDrive fun d => { d with lossCount := loss, nextPos := pos }) :=
  ⟨⟨id, id, fun _ h2 ⟨hspin, hlock, _, hrest⟩ => ⟨hspin, hlock, h.trans h2, hrest⟩, id, id, id⟩, fun _ => id⟩

/-- At the mark that loses the lock the loss count passes its limit until the drive fault clears it (R30, R32). -/
theorem lossFault_keeps {loss : Nat} (hloss : loss ≤ s.drive.lossCount + 1) (pos : Option Nat) :
    Keeps s (driveFault .lock (handIndex false false
      (s.onDrive fun d => { d with lossCount := loss, nextPos := pos }))) := by
  set a := s.onDrive fun d => { d with lossCount := loss, nextPos := pos }
  have hhand := handIndex_keeps (Keeps.refl a) false false
  set b := handIndex false false a
  have hstop := driveFault_stopped (s := b) .lock
  have hwide : ∀ k, 2 ≤ k → s.drive.Within k → b.drive.Within (k + 1) :=
    fun k hk ⟨hspin, hlock, hd, hrest⟩ =>
      hhand.drive (k + 1) (by omega) ⟨hspin, hlock, hloss.trans (Nat.succ_le_succ hd), hrest⟩
  have hrest := driveFault_keeps hhand .lock
  exact ⟨⟨hrest.store, hrest.circuit,
    fun k hk hd => hstop.drive k hk (motorOff_within (s := post (.drumFault .lock) b) (hwide k hk hd) k),
    hrest.cal, hrest.queue, hrest.apart⟩, hrest.binding⟩

theorem lockedMark_keeps (period : Nat) : Keeps s (lockedMark period s) := by
  unfold lockedMark
  dsimp only
  have hloss := lossAfter_le (s.drive.lockedAt.getD .s60) period s.drive.lossCount
  generalize lossAfter (s.drive.lockedAt.getD .s60) period s.drive.lossCount = loss at hloss ⊢
  split
  · exact lossFault_keeps hloss _
  · exact handIndex_keeps (setLoss_keeps loss (by omega) _) _ _

theorem indexMark_keeps (period : Nat) : Keeps s (indexMark period s) := by
  unfold indexMark
  dsimp only
  split
  · exact handIndex_keeps ((approachMark_work (Work.refl s) _).onDriveSame).keeps _ _
  · split
    · exact lockedMark_keeps period
    · exact ((Work.refl s).onDriveSame).keeps

theorem driveSample_keeps (h : Keeps s t) (p : Nat) : Keeps s (driveSample p t) := by
  have hpos := h.work ((Work.refl t).onDriveSame (f := fun d => { d with nextPos := some (p + 1) }))
  unfold driveSample
  dsimp only
  split
  · exact stepFault_keeps hpos
  · exact hpos

theorem scanPosition_keeps (h : Keeps s t) (p x : Nat) : Keeps s (scanPosition p x t) := by
  have hread := h.work ((Work.refl t).onScan (scanSample_keeps p x t.scan))
  unfold scanPosition
  dsimp only
  split
  · exact failPass_keeps hread _
  · exact hread

theorem samplePosition_keeps (p x : Nat) : Keeps s (samplePosition p x s) := by
  unfold samplePosition
  split
  · exact Keeps.refl s
  · split
    · exact (scanPosition_keeps (driveSample_keeps (Keeps.refl s) p) p x).work
        (senderSample_work (calSample_work (Work.refl _) _ _) _)
    · exact Keeps.refl s

theorem lockTimeout_keeps : Keeps s (lockTimeout s) := by
  unfold lockTimeout
  split
  · exact Keeps.refl s
  · exact driveFault_keeps ((Work.refl s).advance _).keeps _

theorem tachometerSilence_keeps : Keeps s (tachometerSilence s) := by
  unfold tachometerSilence
  split
  · exact (((Work.refl s).onDriveSame).post _).keeps
  · exact Keeps.refl s

theorem spinUpEntryExpiry_keeps : Keeps s (spinUpEntryExpiry s) := by
  unfold spinUpEntryExpiry
  split
  · exact Keeps.refl s
  next oldest rest hspins =>
    have hadvanced := (Work.refl s).advance (oldest + Config.spinUpAge)
    dsimp only
    split
    · refine (serveDrum_work (hadvanced.onDrive fun _ ⟨hspin, hrest⟩ => ⟨?_, hrest⟩)).keeps
      rw [advanceTo_drive, hspins] at hspin
      exact (Nat.le_succ _).trans hspin
    · exact hadvanced.keeps

theorem idleHoldExpiry_keeps : Keeps s (idleHoldExpiry s) := by
  unfold idleHoldExpiry
  split
  · exact Keeps.refl s
  · split
    · exact (idleExpire_work ((Work.refl s).advance _)).keeps
    · exact Keeps.refl s

theorem homeSwitch_keeps : Keeps s (homeSwitch s) := by
  unfold homeSwitch
  split
  · exact ((Work.refl s).onDriveSame).keeps
  · exact Keeps.refl s

theorem returnTimeout_keeps : Keeps s (returnTimeout s) := by
  unfold returnTimeout
  split
  · exact Keeps.refl s
  · exact carriageFault_keeps (((Work.refl s).advance _).onDriveSame).keeps

theorem endSwitch_keeps : Keeps s (endSwitch s) := carriageFault_keeps ((Work.refl s).onDriveSame).keeps

theorem warmUpExpiry_keeps : Keeps s (warmUpExpiry s) := by
  unfold warmUpExpiry
  split
  · exact ((((Work.refl s).advance _).onDriveSame).post _).keeps
  · exact Keeps.refl s

theorem lampCurrentFault_keeps : Keeps s (lampCurrentFault s) := by
  unfold lampCurrentFault
  split
  · exact (failPass_keeps (((Work.refl s).onDriveSame).post _).keeps _).work (abortRun_work (Work.refl _))
  · exact Keeps.refl s

theorem temperatureReading_keeps (d : Int) : Keeps s (temperatureReading d s) :=
  (calTemperature_work (((Work.refl s).advance _).onDrive
    fun _ ⟨hspin, hlock, hloss, hstep, _⟩ => ⟨hspin, hlock, hloss, hstep, Nat.min_le_right _ _⟩) _).keeps

end Sys2Proof.Machine
end

section
/-! PROOFS. What a step keeps, concluded: the cover and the keys, the Sender's timers, the printer, the requests and
the supply, and from them every command and every step. -/

namespace Sys2Proof.Machine

variable {s t u : State} {st : JobState}

/-! ### Binding a job (R7, R9) -/

theorem bindingCheck_keeps {j : Job} (hj : (j.number, .mounted) ∈ s.bindings) : Keeps s (bindingCheck j s) := by
  unfold bindingCheck
  split
  · exact release_keeps _ hj (.inl rfl)
  · split
    · exact release_keeps _ hj (.inl rfl)
    · exact Keeps.refl s

/-- A job is bound where the state `t`, reached from `s`, has the queue at rest. -/
theorem bindJob_keeps {j : Job} (h : Holds s t) (hj : (j.number, st) ∈ t.bindings)
    (hrest : s.bindingOk → AtRest t.bindings t.owner) : Keeps s (bindJob j t) := by
  unfold bindJob
  set a := (updJob j.number (fun j => { j with state := .mounted }) t).onQueue fun q => { q with load := .bound }
  have hbs : a.bindings = restate j.number .mounted t.bindings :=
    updJob_bindings (x := .mounted) j.number (by exact fun _ => ⟨rfl, rfl⟩)
  have hbase : Keeps s a := by
    refine ⟨(h.trans (updJob_holds _ _)).trans (Holds.onQueue le_rfl), fun _ hb => ?_⟩
    rw [bindingOk_iff, hbs]
    exact (hrest hb).mount hj
  refine (hbase.work ((Work.refl a).post (.load j.number))).trans (bindingCheck_keeps ?_)
  show _ ∈ a.bindings
  rw [hbs]
  exact mem_restate.mpr (.inl ⟨rfl, _, hj, rfl⟩)

theorem headJob_bindings {j : Job} (h : s.headJob = some j) : (j.number, j.state) ∈ s.bindings := by
  have hmem := List.mem_of_find?_eq_some h
  refine List.mem_map.mpr ⟨j, ?_, rfl⟩
  simp only [queueOrder, List.mem_append, List.mem_filter] at hmem
  tauto

theorem bindHead_keeps (hopen : s.coverOpen = true) : Keeps s (bindHead s) := by
  have hload : s.queue.load = .coverOpen := by simpa [State.coverOpen] using hopen
  have hrest : s.bindingOk → AtRest s.bindings s.owner := fun hb =>
    (bindingOk_iff.mp hb).atRest (by simp [hload])
  unfold bindHead
  split
  next j hj => exact bindJob_keeps (Work.refl s).holds (headJob_bindings hj) hrest
  next =>
    have hbase : Keeps s (s.onQueue fun q => { q with load := .unbound }) :=
      ⟨Holds.onQueue le_rfl, fun _ hb => bindingOk_iff.mpr ((hrest hb).agrees (by simp))⟩
    exact hbase.work ((Work.refl _).post _)

theorem coverClose_keeps : Keeps s (coverClose s) := by
  unfold coverClose
  split
  next hopen => exact (bindHead_keeps hopen).work (serve_work (Work.refl _))
  next => exact Keeps.refl s

/-! ### The cover opened (R10, R11) -/

theorem mountedJob_bindings {j : Job} (h : s.mountedJob = some j) :
    (j.number, j.state) ∈ s.bindings ∧ j.state ≠ .queued :=
  ⟨mem_bindings_of_find h, by simpa using List.find?_some h⟩

/-- The print unbound under an open cover, `t` being the state `s` with its load state OPEN. -/
theorem unbind_keeps {j : Job} (ht : t = post .loadOpen (s.onQueue fun q => { q with load := .coverOpen }))
    (hj : (j.number, j.state) ∈ s.bindings) (hq : j.state ≠ .queued) : Keeps s (unbind j t) := by
  have hopen : Holds s t := by
    rw [ht]
    exact (Holds.onQueue (f := fun q => { q with load := .coverOpen }) le_rfl).trans ((Work.refl _).post _).holds
  have hbs : t.bindings = s.bindings := by rw [ht]; rfl
  have ho : t.owner = s.owner := by rw [ht]; rfl
  have hl : t.queue.load = .coverOpen := by rw [ht]; rfl
  have hdismount : ∀ {f : Job → Job}, (∀ j, (f j).number = j.number ∧ (f j).state = .queued) →
      j.state ≠ .active → Keeps s (updJob j.number f t) := fun hf ha => by
    refine ⟨hopen.trans (updJob_holds _ _), fun _ hb => ?_⟩
    rw [bindingOk_iff] at hb ⊢
    rw [updJob_bindings j.number hf, hbs]
    show Agrees _ t.queue.load t.owner
    rw [hl, ho]
    exact (hb.dismount hj hq ha).agrees (by simp)
  have hleave : ∀ o' : Option (Nat × Bool), (∀ m, o' ≠ some (m, false)) → s.bindingOk →
      Agrees (leaveQueue j t).bindings (leaveQueue j t).queue.load o' := fun o' ho' hb => by
    obtain ⟨hbs', -, hl'⟩ := leaveQueue_bindings (s := t) j
    rw [hbs', hl', hbs, hl]
    exact ((bindingOk_iff.mp hb).remove hj hq ho').agrees (by simp)
  unfold unbind
  split
  next hst => exact absurd hst hq
  next hst => exact hdismount (by exact fun _ => ⟨rfl, rfl⟩) (by simp [hst])
  next hst =>
    exact (hdismount (by exact fun _ => ⟨rfl, rfl⟩) (by simp [hst])).work
      (withdrawQueueWant_work ((Work.refl _).onQueue rfl rfl))
  next hst =>
    have hdetached : Keeps s ((leaveQueue j t).onPass fun p => { p with detached := true }) := by
      refine ⟨(hopen.trans (leaveQueue_holds j)).trans ⟨id, id, fun _ _ => id, id, id, id⟩, fun _ hb => ?_⟩
      rw [bindingOk_iff]
      refine hleave _ (fun m => ?_) hb
      simp [State.owner, Pass.owner]
    exact failPass_keeps (hdetached.work (scanEnd_work (Work.refl _))) _
  next hst =>
    refine ⟨hopen.trans (leaveQueue_holds j), fun _ hb => ?_⟩
    rw [bindingOk_iff]
    refine hleave _ (fun m hm => ?_) hb
    rw [(leaveQueue_bindings (s := t) j).2.1, ho] at hm
    simpa [hst] using ((bindingOk_iff.mp hb).owner_eq hj hq hm).2

theorem coverOpens_keeps : Keeps s (coverOpens s) := by
  unfold coverOpens
  split
  · exact Keeps.refl s
  · dsimp only
    refine Keeps.work ?_ (driveCoverOpen_work (Work.refl _))
    split
    next hnone =>
      have hbase : Keeps s (s.onQueue fun q => { q with load := .coverOpen }) := by
        refine ⟨Holds.onQueue le_rfl, fun _ hb => ?_⟩
        rw [bindingOk_iff] at hb ⊢
        have hnot : s.queue.load ≠ .bound := fun hbound => by
          obtain ⟨b, hmem, hq⟩ := hb.bound.mp hbound
          obtain ⟨j, hj, rfl⟩ := List.mem_map.mp hmem
          have := List.find?_eq_none.mp hnone j hj
          exact hq (by simpa [Job.binding] using this)
        exact (hb.atRest hnot).agrees (by simp)
      exact hbase.work ((Work.refl _).post _)
    next j hj =>
      obtain ⟨hmem, hq⟩ := mountedJob_bindings hj
      exact unbind_keeps rfl hmem hq

/-! ### HOLD, GO and KILL (R23, R135, R138, R145) -/

theorem holdJob_keeps {j : Job} {b : Bool} (h : holdJob j s = .ok (b, t)) : Keeps s t := by
  unfold holdJob at h
  repeat' split at h
  all_goals cases h
  exact (addHold_work (Work.refl s)).keeps

theorem goJob_keeps {j : Job} (h : goJob j s = .ok t) : Keeps s t := by
  unfold goJob at h
  repeat' split at h
  all_goals cases h
  exact removeHold_keeps (Keeps.refl s)

theorem killPass_keeps (h : killPass s = .ok t) : Keeps s t := by
  unfold killPass at h
  repeat' split at h
  all_goals cases h
  · exact terminate_keeps (Keeps.refl s) _ _ _
  · exact terminate_keeps (Keeps.refl s) _ _ _

theorem killJob_keeps {j : Job} {b : Bool} (hj : (j.number, j.state) ∈ s.bindings)
    (h : killJob j s = .ok (b, t)) : Keeps s t := by
  unfold killJob at h
  split at h
  next hst => cases h; exact leaveQueue_keeps hj (by simp [hst])
  next hst => cases h; exact leaveQueue_keeps hj (by simp [hst])
  next hst => cases h; exact leaveQueue_keeps hj (by simp [hst])
  next =>
    cases hk : killPass s with
    | error c => simp [hk, Except.map] at h
    | ok v =>
      simp only [hk, Except.map, Except.ok.injEq, Prod.mk.injEq] at h
      exact h.2 ▸ killPass_keeps hk
  next => cases h

theorem sendKey_keeps : Keeps s (sendKey s) := by
  unfold sendKey
  split
  · exact Keeps.refl s
  next j hj =>
    have hmem := (mountedJob_bindings hj).1
    repeat' split
    all_goals first | exact Keeps.refl s | exact goJob_keeps ‹_› | exact release_keeps _ hmem (.inl ‹_›)

theorem holdKey_keeps : Keeps s (holdKey s) := by
  unfold holdKey
  repeat' split
  all_goals first | exact Keeps.refl s | exact holdJob_keeps ‹_›

theorem stopKey_keeps : Keeps s (stopKey s) := by
  unfold stopKey
  split
  · exact Keeps.refl s
  next j hj =>
    split
    · exact Keeps.refl s
    next heq => exact killJob_keeps (mountedJob_bindings hj).1 heq

/-! ### The requests of the queue -/

theorem jobArg_bindings {args : List Text} {j : Job} (h : jobArg args s = .ok j) :
    (j.number, j.state) ∈ s.bindings := by
  unfold jobArg at h
  repeat' split at h
  all_goals cases h
  exact mem_bindings_of_find ‹_›

/-- Check 4 of R9: the job is QUEUED, and only a MOUNTED job stands in its way. -/
theorem mayMount_iff {j : Job} :
    s.mayMount j = true ↔ s.coverOpen = false ∧ j.state = .queued ∧
      (s.queue.load = .unbound ∨ ∃ m, s.mountedJob = some m ∧ m.state = .mounted) := by
  unfold State.mayMount
  cases s.mountedJob <;> simp [and_assoc]

theorem unmount_bindings : (unmount s).bindings =
    s.bindings.map fun b => if b.2 = .mounted then (b.1, .queued) else b := by
  simp only [State.bindings, unmount, State.onQueue_queue, List.map_map]
  refine List.map_congr_left fun j _ => ?_
  by_cases hm : j.state = .mounted <;> simp [Job.binding, hm]

/-- With the MOUNTED job back to QUEUED the queue is at rest (R9). -/
theorem unmount_atRest {j : Job} (hb : s.bindingOk) (hm : s.mayMount j = true) :
    AtRest (unmount s).bindings (unmount s).owner := by
  rw [bindingOk_iff] at hb
  obtain ⟨-, -, hready⟩ := mayMount_iff.mp hm
  have honly : ∀ b ∈ s.bindings, b.2 ≠ .queued → b.2 = .mounted := by
    intro b hmem hq
    rcases hready with hl | ⟨m, hm, hst⟩
    · exact absurd ((hb.atRest (by simp [hl])).queued b hmem) hq
    · obtain ⟨hmm, hmq⟩ := mountedJob_bindings hm
      rw [hb.one b hmem _ hmm hq hmq]
      exact hst
  rw [unmount_bindings]
  refine ⟨?_, ?_, fun n hn => by simpa using honly _ (hb.live n hn)⟩
  · rw [List.map_map]
    have : ((fun b : Nat × JobState => b.1) ∘ fun b => if b.2 = .mounted then (b.1, .queued) else b) =
        fun b => b.1 := by
      funext b
      simp only [Function.comp_apply]
      split <;> rfl
    rw [this]
    exact hb.distinct
  · intro b hmem
    obtain ⟨c, hc, rfl⟩ := List.mem_map.mp hmem
    by_cases hq : c.2 = .queued
    · simp [hq]
    · simp [honly c hc hq]

theorem requestMount_keeps (args : List Text) : Keeps s (requestMount args s).1 := by
  unfold requestMount
  split
  · exact Keeps.refl s
  next j hj =>
    split
    next hm =>
      refine conclude_keeps (bindJob_keeps (st := .queued) (Holds.onQueue (by simp)) ?_ fun hb => unmount_atRest hb hm)
      rw [unmount_bindings]
      refine List.mem_map.mpr ⟨_, jobArg_bindings hj, ?_⟩
      simp [(mayMount_iff.mp hm).2.1]
    next => exact Keeps.refl s

theorem requestStart_keeps (args : List Text) : Keeps s (requestStart args s).1 := by
  unfold requestStart
  split
  · exact Keeps.refl s
  next j hj =>
    have hmem := jobArg_bindings hj
    split
    · exact (updJob_work (Work.refl s) j.number (by exact fun _ => rfl)).keeps
    next hst =>
      split
      · exact conclude_keeps (release_keeps _ hmem (.inl hst))
      · exact Keeps.refl s
    all_goals exact Keeps.refl s

theorem requestHold_keeps (args : List Text) : Keeps s (requestHold args s).1 := by
  unfold requestHold
  repeat' split
  all_goals first | exact Keeps.refl s | exact holdJob_keeps ‹_›

theorem requestGo_keeps (args : List Text) : Keeps s (requestGo args s).1 := by
  unfold requestGo
  repeat' split
  all_goals first | exact Keeps.refl s | exact conclude_keeps (goJob_keeps ‹_›)

theorem requestKill_keeps (args : List Text) : Keeps s (requestKill args s).1 := by
  unfold requestKill
  split
  · exact Keeps.refl s
  next j hj =>
    split
    · exact Keeps.refl s
    next heq => exact conclude_keeps (killJob_keeps (jobArg_bindings hj) heq)

theorem repeatRefusal_none {j : Job} {ns : List Nat} (h : repeatRefusal j ns s = none) : j.state = .finished := by
  unfold repeatRefusal at h
  by_contra hne
  simp [hne] at h

theorem requestRepeat_keeps (args : List Text) : Keeps s (requestRepeat args s).1 := by
  unfold requestRepeat
  split
  · exact Keeps.refl s
  · split
    · split
      · exact Keeps.refl s
      next j hj =>
        split
        · exact Keeps.refl s
        next hnone =>
          have w := updJob_work (Work.refl s) j.number
            (f := fun k => { k with passNo := k.passNo + 1, stations := ascending ‹List Nat› }) fun _ => rfl
          refine conclude_keeps (w.keeps.trans (release_keeps (st := .finished) _ ?_ (.inr rfl)))
          rw [w.bindings, ← repeatRefusal_none hnone]
          exact mem_bindings_of_find hj
    · exact Keeps.refl s

end Sys2Proof.Machine
end

section
/-! PROOFS. The number drawn for a new job (R3): the search goes through the 999 job numbers in a circle from the
counter on, and at most 24 of them are in use. -/

namespace Sys2Proof.Machine

variable {s : State}

/-- The i-th number from the counter `c` on, 1 following 999. -/
def candidate (c i : Nat) : Nat := (c - 1 + i) % 999 + 1

theorem candidate_zero {c : Nat} (h1 : 1 ≤ c) (h999 : c ≤ 999) : candidate c 0 = c := by
  unfold candidate
  omega

theorem nextNumber_candidate (c i : Nat) : nextNumber (candidate c i) = candidate c (i + 1) := by
  unfold nextNumber candidate
  split <;> omega

theorem candidate_inj {c i k : Nat} (hi : i < 999) (hk : k < 999) (h : candidate c i = candidate c k) : i = k := by
  unfold candidate at h
  omega

/-- The search goes on while the candidates are in use, for as long as its fuel lasts. -/
theorem freeNumber_candidate (s : State) (c fuel i : Nat) :
    ∃ k ≤ fuel, freeNumber s fuel (candidate c i) = candidate c (i + k) ∧
      (∀ m < k, s.numberInUse (candidate c (i + m)) = true) ∧
      (k < fuel → s.numberInUse (candidate c (i + k)) = false) := by
  induction fuel generalizing i with
  | zero => exact ⟨0, le_rfl, rfl, by simp, by simp⟩
  | succ fuel ih =>
    cases huse : s.numberInUse (candidate c i) with
    | false => exact ⟨0, Nat.zero_le _, by simp [freeNumber, huse], by simp, fun _ => huse⟩
    | true =>
      obtain ⟨k, hk, heq, hused, hfree⟩ := ih (i + 1)
      refine ⟨k + 1, by omega, ?_, fun m hm => ?_, fun hlt => ?_⟩
      · rw [freeNumber, if_pos huse, nextNumber_candidate, heq]
        congr 1
        omega
      · cases m with
        | zero => exact huse
        | succ m =>
          have := hused m (by omega)
          rwa [show i + (m + 1) = i + 1 + m by omega]
      · rw [show i + (k + 1) = i + 1 + k by omega]
        exact hfree (by omega)

theorem numberInUse_iff (n : Nat) :
    s.numberInUse n = true ↔ (∃ j ∈ s.queue.jobs, j.number = n) ∨ ∃ r ∈ s.receipts.log, r.job = n := by
  simp [State.numberInUse]

/-- Of the 999 candidates one is free. -/
theorem exists_free_candidate (hq : s.queueBounded) (c : Nat) :
    ¬ ∀ m < 999, s.numberInUse (candidate c m) = true := by
  intro hall
  obtain ⟨hjobs, hlog, -⟩ := hq
  have hnodup : ((List.range 999).map (candidate c)).Nodup :=
    List.Nodup.map_on (fun i hi k hk h => candidate_inj (List.mem_range.mp hi) (List.mem_range.mp hk) h)
      List.nodup_range
  have hsub : (List.range 999).map (candidate c) ⊆ s.queue.jobs.map (·.number) ++ s.receipts.log.map (·.job) := by
    intro n hn
    obtain ⟨m, hm, rfl⟩ := List.mem_map.mp hn
    simpa using (numberInUse_iff _).mp (hall m (List.mem_range.mp hm))
  have hlen := (hnodup.subperm hsub).length_le
  simp only [List.length_map, List.length_range, List.length_append] at hlen
  omega

/-- The number drawn is the first candidate in use in neither place. -/
theorem drawnNumber_candidate (hq : s.queueBounded) :
    ∃ k, s.drawnNumber = candidate s.backup.counter k ∧ s.numberInUse s.drawnNumber = false ∧
      ∀ i < k, s.numberInUse (candidate s.backup.counter i) = true := by
  obtain ⟨-, -, h1, h999⟩ := id hq
  obtain ⟨k, hk, heq, hused, hfree⟩ := freeNumber_candidate s s.backup.counter 999 0
  rw [candidate_zero h1 h999] at heq
  simp only [Nat.zero_add] at heq hused hfree
  have hlt : k < 999 := by
    refine lt_of_le_of_ne hk ?_
    rintro rfl
    exact exists_free_candidate hq _ hused
  refine ⟨k, heq, ?_, hused⟩
  rw [State.drawnNumber, heq]
  exact hfree hlt

/-- Settles O19: the search ends at its first free candidate, since at most 24 of 999 numbers are in use. -/
theorem drawnNumberIsFree : Obligations.DrawnNumberIsFree := by
  intro s hq
  obtain ⟨k, heq, hfree, hused⟩ := drawnNumber_candidate hq
  have hnot := mt (numberInUse_iff (s := s) s.drawnNumber).mpr (by simp [hfree])
  push Not at hnot
  exact ⟨k, heq, hnot.1, hnot.2, fun i hi => (numberInUse_iff _).mp (hused i hi)⟩

end Sys2Proof.Machine
end

section
/-! PROOFS. What a step keeps, concluded: the requests of every block, the supply, the lines of the link, and from
them every command. The three invariants and the frame of a step are read off. -/

namespace Sys2Proof.Machine

variable {s t u : State} {st : JobState}

/-! ### QUEUE (R1 to R3) -/

/-- A job joins under a number that no other uses, and the counter moves on to a job number. -/
theorem enqueue_keeps {j : Job} (hlen : s.queue.jobs.length < 8)
    (hfree : s.queueBounded → ∀ k ∈ s.queue.jobs, k.number ≠ j.number) (hq : j.state = .queued) :
    Keeps s (enqueue j s) := by
  have hnext : 1 ≤ nextNumber j.number ∧ nextNumber j.number ≤ 999 := by
    unfold nextNumber
    split <;> omega
  refine ⟨⟨id, id, fun _ _ => id, id, fun ⟨_, hlog, _⟩ => ⟨?_, hlog, hnext⟩, id⟩, fun hb8 hb => ?_⟩
  · simp [enqueue]
    omega
  · rw [bindingOk_iff] at hb ⊢
    have hbs : (enqueue j s).bindings = s.bindings ++ [(j.number, .queued)] := by
      simp [State.bindings, enqueue, Job.binding, hq]
    rw [hbs]
    refine hb.join fun b hmem => ?_
    obtain ⟨k, hk, rfl⟩ := List.mem_map.mp hmem
    exact hfree hb8 k hk

theorem queueRefusal_none {f : QueueForm} (h : queueRefusal f s = none) : s.queue.jobs.length < 8 := by
  have hcap : Config.queueCap = 8 := rfl
  unfold queueRefusal at h
  by_contra hge
  have hfull : Config.queueCap ≤ s.queue.jobs.length := by omega
  simp only [hfull, if_true] at h
  split_ifs at h

theorem requestQueue_keeps (args : List Text) : Keeps s (requestQueue args s).1 := by
  unfold requestQueue
  repeat' split
  all_goals try exact Keeps.refl s
  next hnone =>
    refine enqueue_keeps (queueRefusal_none hnone) (fun hb => ?_) rfl
    obtain ⟨-, hfree⟩ := (drawnNumberIsFree s hb).choose_spec
    exact hfree.1

/-! ### The other requests -/

theorem changeMask_work (on : Bool) (n : Nat) : Work s (changeMask on n s) := by
  have hpend := updStation_work (Work.refl s) n (f := fun e => { e with maskPending := on }) fun _ h1 h2 => ⟨h1, h2⟩
  unfold changeMask
  dsimp only
  split
  · exact hpend
  · exact applyMask_work hpend

theorem loadCurve_work (k : Nat) (points : List Nat) : Work s (loadCurve k points s) := by
  refine (Work.refl s).onScan ?_
  split_ifs <;> exact .refl _

theorem addCopy_work (n p : Nat) : Work s (addCopy n p s) := (Work.refl s).onReceipts

theorem askCopy_keeps (n : Nat) (e : PassEntry) : Keeps s (askCopy n e s).1 := by
  unfold askCopy
  repeat' split
  · exact Keeps.refl s
  · exact conclude_keeps ((setSlip_work (Work.refl s) _ _ _).onReceipts).keeps
  · exact (addCopy_work _ _).keeps
  · exact Keeps.refl s

theorem requestSlip_keeps (args : List Text) : Keeps s (requestSlip args s).1 := by
  unfold requestSlip
  repeat' split
  all_goals first | exact Keeps.refl s | exact askCopy_keeps _ _

theorem nameStation_work (n : Nat) (name : Text) : Work s (updStation n (fun e => { e with name := some name }) s) :=
  updStation_work (Work.refl s) n fun _ h1 h2 => ⟨h1, h2⟩

theorem requestStationDefine_keeps (args : List Text) : Keeps s (requestStationDefine args s).1 := by
  unfold requestStationDefine
  repeat' split
  all_goals first | exact Keeps.refl s | exact (nameStation_work _ _).keeps

theorem requestStationOff_keeps (w : Text) : Keeps s (requestStationOff w s).1 := by
  unfold requestStationOff
  repeat' split
  all_goals try exact Keeps.refl s
  exact (updStation_work (Work.refl s) _ (by exact fun _ _ _ => ⟨Nat.zero_le _, Nat.zero_le _⟩)).keeps

theorem requestMaskChange_keeps (args : List Text) : Keeps s (requestMaskChange args s).1 := by
  unfold requestMaskChange
  repeat' split
  all_goals first | exact Keeps.refl s | exact (changeMask_work _ _).keeps

theorem requestCurveLoad_keeps (args : List Text) : Keeps s (requestCurveLoad args s).1 := by
  unfold requestCurveLoad
  repeat' split
  all_goals first | exact Keeps.refl s | exact (loadCurve_work _ _).keeps

theorem requestCal_keeps (args : List Text) : Keeps s (requestCal args s).1 := by
  unfold requestCal
  repeat' split
  all_goals first | exact Keeps.refl s | exact (askCalibration_work (Work.refl s)).keeps

/-- The default references are 3,200 apart (R84). -/
theorem defaultCal_keeps (c : Calib) : c.Keeps (defaultCal c) :=
  ⟨fun hc => ⟨by simp [defaultCal], hc.2⟩, fun _ => by simp [Calib.Apart, defaultCal]⟩

theorem requestCalDefault_keeps : Keeps s (requestCalDefault s).1 := by
  unfold requestCalDefault
  repeat' split
  all_goals first
    | exact Keeps.refl s | exact conclude_keeps ((Work.refl s).onCal (defaultCal_keeps _)).keeps

theorem setClock_work (c : DayTime) : Work s (setClock c s) := (Work.refl s).onBackup rfl

theorem requestClockSet_keeps (args : List Text) : Keeps s (requestClockSet args s).1 := by
  unfold requestClockSet
  repeat' split
  all_goals first | exact Keeps.refl s | exact (setClock_work _).keeps

theorem requestSet_keeps (args : List Text) : Keeps s (requestSet args s).1 := by
  unfold requestSet
  repeat' split
  all_goals first | exact Keeps.refl s | exact ((Work.refl s).onSettings _).keeps

theorem setPause_work (on : Bool) : Work s (setPause on s) := (Work.refl s).onLink _

theorem requestClear_keeps (args : List Text) : Keeps s (requestClear args s).1 := by
  unfold requestClear
  split
  · exact Work.keeps ((Work.refl s).onLink fun l => { l with overflow := false })
  · exact Keeps.refl s

/-! ### RESET (R188) -/

/-- The queue emptied, the pass left without its job (R25). -/
theorem resetQueue_keeps (h : Keeps s t) : Keeps s (resetQueue t) := by
  refine h.trans ⟨⟨id, id, fun _ _ => id, id, fun ⟨_, hrest⟩ => ⟨Nat.zero_le _, hrest⟩, id⟩, fun _ _ => ?_⟩
  rw [bindingOk_iff]
  have hrest : AtRest (resetQueue t).bindings (resetQueue t).owner := by
    refine ⟨List.nodup_nil, fun b hb => (by cases hb), fun n hn => ?_⟩
    obtain ⟨p, hp, ho⟩ := Option.map_eq_some_iff.mp hn
    obtain ⟨q, -, rfl⟩ := Option.map_eq_some_iff.mp hp
    cases ho
  refine hrest.agrees ?_
  show (if t.queue.load = .coverOpen then LoadState.coverOpen else .unbound) ≠ .bound
  split <;> simp

theorem resetDrive_work (h : Work s t) : Work s (resetDrive t) := by
  refine (motorOff_work h).onDrive fun loss hd => ?_
  rw [haltCarriage_within] at hd
  obtain ⟨hspin, hlock, hloss, -, htemp⟩ := hd
  exact ⟨hspin, hlock, hloss, Nat.zero_le _, htemp⟩

theorem resetCal_work (h : Work s t) : Work s (resetCal t) := by
  refine h.onCal ?_
  split
  next hnone => exact Calib.keeps_of_gain hnone (fun hc => hc.1) id
  next r hr => exact Calib.keeps_of_gain rfl (fun hc => (hc.2 r hr).1) id

theorem resetSender_keeps (h : Keeps s t) : Keeps s (resetSender t) := by
  refine closePass_keeps (h.work (scanEnd_work ((Work.refl t).onPass fun p => ?_)))
  unfold Pass.resetReasons
  split <;> rfl

theorem resetCircuit_work (h : Work s t) : Work s (resetCircuit t) :=
  (zeroCounts_work (stopRounds_work h)).onCircuit fun ⟨hlen, _, hcounts⟩ => ⟨hlen, Nat.zero_le _, hcounts⟩

theorem resetReceipts_work (h : Work s t) : Work s (resetReceipts t) := by
  unfold resetReceipts
  dsimp only
  refine Work.onReceipts ?_
  split
  · exact cutSlip_work (closeAll_work h)
  · exact closeAll_work h

theorem resetAll_keeps : Keeps s (resetAll s) := by
  have hqueue : Keeps s (resetQueue (resetLink s)) := resetQueue_keeps ((Work.refl s).onLink _).keeps
  have hsender := resetSender_keeps ((hqueue.work (resetDrive_work (Work.refl _))).work (resetCal_work (Work.refl _)))
  exact conclude_keeps ((hsender.work (resetCircuit_work (Work.refl _))).work (resetReceipts_work (Work.refl _)))

theorem requestReset_keeps (args : List Text) : Keeps s (requestReset args s).1 := by
  unfold requestReset
  split
  · exact resetAll_keeps
  · exact Keeps.refl s

/-! ### Every request, and the lines of the link -/

theorem Keeps.of_eq (h : t = s) : Keeps s t := h ▸ Keeps.refl s

theorem ownerTakes_keeps (r : Request) : Keeps s (ownerTakes r s).1 := by
  cases r
  case queue => exact requestQueue_keeps _
  case mount => exact requestMount_keeps _
  case start => exact requestStart_keeps _
  case hold => exact requestHold_keeps _
  case go => exact requestGo_keeps _
  case kill => exact requestKill_keeps _
  case repeatPass => exact requestRepeat_keeps _
  case list => exact .of_eq (list_same _)
  case stationDefine => exact requestStationDefine_keeps _
  case stationOff => exact requestStationOff_keeps _
  case stationRead => exact .of_eq (stationRead_same _)
  case maskChange => exact requestMaskChange_keeps _
  case setKeys => exact requestSet_keeps _
  case getKeys => exact .of_eq (get_same _)
  case curveLoad => exact requestCurveLoad_keeps _
  case curveRead => exact .of_eq (curveRead_same _)
  case cal => exact requestCal_keeps _
  case calDefault => exact requestCalDefault_keeps
  case clockSet => exact requestClockSet_keeps _
  case receiptRead => exact .of_eq (receiptRead_same _)
  case slipRequest => exact requestSlip_keeps _
  case status => exact .of_eq (status_same _)
  case reportsOn => exact (setPause_work false).keeps
  case reportsOff => exact (setPause_work true).keeps
  case reportsRead => exact .of_eq (reportsRead_same _)
  case clear => exact requestClear_keeps _
  case reset => exact requestReset_keeps _
  all_goals exact Keeps.refl s

theorem takeRequest_keeps (h : Keeps s t) (r : Request) : Keeps s (takeRequest r t) :=
  (h.trans (ownerTakes_keeps r)).work
    ((Work.refl (ownerTakes r t).1).onLink fun l => { l with waiting := some (ownerTakes r t).2 })

theorem deliver_keeps (r : Request) : Keeps s (deliver r s) := by
  unfold deliver completed
  dsimp only
  refine pump_keeps ?_
  repeat' split
  · exact ((Work.refl s).onLink _).keeps
  · exact (((Work.refl s).onLink _).onLink _).keeps
  · exact takeRequest_keeps ((Work.refl s).onLink _).keeps r

theorem takeHeld_keeps (h : Keeps s t) : Keeps s (takeHeld t) := by
  unfold takeHeld
  split
  · exact h
  · refine takeRequest_keeps ?_ _
    split
    · exact h.work (((Work.refl t).onLink _).post _)
    · exact h.work ((Work.refl t).onLink _)

theorem lineEnds_keeps : Keeps s (lineEnds s) := by
  unfold lineEnds
  split
  · exact Keeps.refl s
  · exact pump_keeps (takeHeld_keeps (pump_keeps ((Work.refl s).onLink _).keeps))

theorem receive_keeps (c : RxChar) : Keeps s (receive c s) := by
  unfold receive
  repeat' split
  all_goals first | exact Keeps.refl s | exact deliver_keeps _ | exact ((Work.refl s).onLink _).keeps

theorem lineTimeout_keeps : Keeps s (lineTimeout s) := by
  unfold lineTimeout
  split
  · exact Keeps.refl s
  · exact (pump_work ((((Work.refl s).advance _).onLink _).post _)).keeps

/-! ### The Sender's timers, the printer -/

theorem callupSignalEnd_keeps : Keeps s (callupSignalEnd s) := by
  unfold callupSignalEnd
  split
  next p _ _ hp => exact (((Work.refl s).advance _).onSender (by simp [hp, Pass.owner])).keeps
  next => exact Keeps.refl s

theorem endSignalEnd_keeps : Keeps s (endSignalEnd s) := by
  unfold endSignalEnd
  split
  · exact ((setCirc_work ((Work.refl s).advance _) _ _).onPass).keeps
  · exact Keeps.refl s

theorem killSignalEnd_keeps : Keeps s (killSignalEnd s) := by
  unfold killSignalEnd
  split
  · exact closePass_keeps ((Work.refl s).advance _).keeps
  · exact Keeps.refl s

theorem holdDeadline_keeps : Keeps s (holdDeadline s) := by
  unfold holdDeadline
  repeat' split
  all_goals first | exact Keeps.refl s | exact failPass_keeps ((Work.refl s).advance _).keeps _

theorem breakDeadline_keeps : Keeps s (breakDeadline s) := by
  unfold breakDeadline
  repeat' split
  all_goals first | exact Keeps.refl s | exact failPass_keeps ((Work.refl s).advance _).keeps _

theorem paperOut_keeps : Keeps s (paperOut s) := by
  unfold paperOut
  dsimp only
  split
  · exact ((cutSlip_work (Work.refl s)).onReceipts.post _).keeps
  · exact ((Work.refl s).onReceipts.post _).keeps
  · exact Keeps.refl s

theorem paperIn_keeps : Keeps s (paperIn s) := by
  unfold paperIn
  split
  · exact (kick_work ((Work.refl s).onReceipts.post _)).keeps
  · exact Keeps.refl s
  · exact Keeps.refl s

/-! ### The supply -/

/-- The working blocks at their power-up values (R187). -/
theorem freshBlocks_keeps (pins : PowerPins) (on : Bool) : Keeps s (freshBlocks pins { s with powered := on }) := by
  refine ⟨⟨fun _ => ?_, fun _ => ⟨rfl, Nat.zero_le _, fun e he => ?_⟩, fun _ _ _ => ?_,
    fun _ => ⟨?_, fun r hr => (by cases hr)⟩, fun ⟨_, hrest⟩ => ⟨Nat.zero_le _, hrest⟩, fun _ => ?_⟩, fun _ _ => ?_⟩
  · simp [freshBlocks, Scan.Within, Scan.fresh]
  · obtain rfl := List.eq_of_mem_replicate he
    simp [Station.fresh]
  · exact ⟨Nat.zero_le _, Nat.zero_le _, Nat.zero_le _, Nat.zero_le _, Nat.min_le_right _ _⟩
  · simp [freshBlocks, Calib.fresh]
  · simp [freshBlocks, Scan.Apart, Calib.Apart, Scan.fresh, Calib.fresh]
  · rw [bindingOk_iff]
    have hrest : AtRest [] none := ⟨List.nodup_nil, fun _ hb => (by cases hb), fun _ hn => (by cases hn)⟩
    refine hrest.agrees ?_
    show (if pins.coverClosed then LoadState.unbound else .coverOpen) ≠ .bound
    split <;> simp

theorem postBattery_work (h : Work s t) (b : Battery) : Work s (postBattery b t) := by
  cases b
  · exact h
  · exact h.post _
  · exact h.post _

/-- The log is kept or lost, and the counter is kept or begins again (R187). -/
theorem powerKept_keeps (lost : Bool) (clock : Option DayTime) (b : Battery) :
    Keeps s ((s.onReceipts (powerReceipts lost clock)).onBackup fun x => { powerBackup lost x with battery := b }) := by
  refine ⟨⟨id, id, fun _ _ => id, id, fun ⟨hjobs, hlog, hcounter⟩ => ⟨hjobs, ?_, ?_⟩, id⟩, fun _ => id⟩
  · cases lost
    · simpa [powerReceipts, settleLog] using hlog
    · exact Nat.zero_le _
  · cases lost
    · exact hcounter
    · simp [powerBackup]

theorem powerUp_keeps (pins : PowerPins) : Keeps s (powerUp pins s) := by
  have hfresh := (freshBlocks_keeps (s := s) pins true).work
    (postBattery_work ((Work.refl _).post (.power (!s.backup.latch))) pins.battery)
  exact finish_keeps (hfresh.trans (powerKept_keeps _ _ _))

theorem mainPowerLoss_keeps : Keeps s (mainPowerLoss s) := by
  unfold mainPowerLoss
  split
  · exact freshBlocks_keeps _ false
  · exact Keeps.refl s

theorem batteryChange_work (b : Battery) : Work s (batteryChange b s) := by
  unfold batteryChange
  split
  · exact Work.refl s
  · exact postBattery_work ((Work.refl s).onBackup rfl) b

theorem releaseTest_keeps (h : Keeps s t) : Keeps s (releaseTest t) := by
  unfold releaseTest
  split
  · exact h
  next j hj =>
    split
    next hst => exact h.trans (release_keeps _ (mountedJob_bindings hj).1 (.inl hst.1))
    next => exact h

theorem secondEvent_keeps : Keeps s (secondEvent s) := by
  unfold secondEvent
  split
  · exact Keeps.refl s
  next c hc =>
    have hclock : Work s (advanceClock c s) := ((Work.refl s).advance _).onBackup rfl
    split
    · exact finish_keeps (releaseTest_keeps hclock.keeps)
    · split
      · exact Keeps.refl s
      · exact hclock.keeps

/-! ### Every command, and every step -/

theorem live_keeps {f : State → State} (h : live f s = .next t) (hf : Keeps s (f s)) : Keeps s t := by
  unfold live at h
  cases h
  split
  · exact hf
  · exact Keeps.refl s

theorem pump_live_keeps {g : State → State} (hg : Keeps s (g s)) (h : live (fun s => pump (g s)) s = .next t) :
    Keeps s t := live_keeps h (pump_keeps hg)

theorem finish_live_keeps {g : State → State} (hg : Keeps s (g s))
    (h : live (fun s => finish (g s)) s = .next t) : Keeps s t := live_keeps h (finish_keeps hg)

theorem request_keeps {r : Request} (h : exec r.toInstr s = .next t) : Keeps s t := by
  rw [exec_request] at h
  exact live_keeps h (deliver_keeps r)

/-- A command is a request row or an event. -/
theorem Instr.request_or_event {P : Instr → Prop} (request : ∀ r : Request, P r.toInstr)
    (event : ∀ c : Instr, c.request? = none → P c) (c : Instr) : P c := by
  cases hr : c.request? with
  | none => exact event c hr
  | some r =>
    have : r.toInstr = c := by
      cases c <;> cases hr <;> rfl
    exact this ▸ request r

theorem exec_keeps (c : Instr) (h : exec c s = .next t) : Keeps s t := by
  induction c using Instr.request_or_event with
  | request r => exact request_keeps h
  | event c hc =>
  cases c
  case characterReceived x => exact live_keeps h (receive_keeps x)
  case interCharacterTimeout => exact live_keeps h lineTimeout_keeps
  case lineSent => exact live_keeps h lineEnds_keeps
  case coverClose => exact finish_live_keeps coverClose_keeps h
  case coverOpen => exact finish_live_keeps coverOpens_keeps h
  case sendKey => exact finish_live_keeps sendKey_keeps h
  case holdKey => exact pump_live_keeps holdKey_keeps h
  case stopKey => exact finish_live_keeps stopKey_keeps h
  case indexMark p => exact finish_live_keeps (indexMark_keeps p) h
  case samplePosition p x => exact finish_live_keeps (samplePosition_keeps p x.toNat) h
  case lockTimerExpiry => exact finish_live_keeps lockTimeout_keeps h
  case tachometerSilence => exact pump_live_keeps tachometerSilence_keeps h
  case spinUpEntryExpiry => exact finish_live_keeps spinUpEntryExpiry_keeps h
  case idleHoldExpiry => exact pump_live_keeps idleHoldExpiry_keeps h
  case homeSwitch => exact live_keeps h homeSwitch_keeps
  case returnTimerExpiry => exact finish_live_keeps returnTimeout_keeps h
  case stepSense => exact live_keeps h <| ((Work.refl s).onDriveSame).keeps
  case endSwitch => exact finish_live_keeps endSwitch_keeps h
  case warmUpExpiry => exact finish_live_keeps warmUpExpiry_keeps h
  case lampCurrentFault => exact finish_live_keeps lampCurrentFault_keeps h
  case temperatureReading d => exact finish_live_keeps (temperatureReading_keeps d) h
  case carrierPresent => exact live_keeps h <| (onRounds_work (Work.refl s) _).keeps
  case returnCharacter x => exact live_keeps h <| (onRounds_work (Work.refl s) _).keeps
  case slotEnd => exact finish_live_keeps (slotEnd_keeps (Keeps.refl s)) h
  case callupSignalEnd => exact live_keeps h callupSignalEnd_keeps
  case endSignalEnd => exact live_keeps h endSignalEnd_keeps
  case killSignalEnd => exact finish_live_keeps killSignalEnd_keeps h
  case holdDeadline => exact finish_live_keeps holdDeadline_keeps h
  case breakDeadline => exact finish_live_keeps breakDeadline_keeps h
  case toneOn => exact live_keeps h <| (toneOn_work (Work.refl s)).keeps
  case toneOff => exact live_keeps h <| (toneOff_work (Work.refl s)).keeps
  case armingTimerExpiry => exact finish_live_keeps (armingExpiry_keeps (Keeps.refl s)) h
  case endingTimerExpiry => exact finish_live_keeps (endingExpiry_keeps (Keeps.refl s)) h
  case slipLinePrinted => exact finish_live_keeps (slipLineDone_work (Work.refl s)).keeps h
  case paperOut => exact pump_live_keeps paperOut_keeps h
  case paperIn => exact pump_live_keeps paperIn_keeps h
  case secondEvent => cases h; exact secondEvent_keeps
  case batteryChange b =>
    cases h
    split
    · exact (pump_work (batteryChange_work b)).keeps
    · exact ((Work.refl s).onBackup rfl).keeps
  case retentionLatchSet =>
    cases h
    split
    · exact Keeps.refl s
    · exact ((Work.refl s).onBackup rfl).keeps
  case powerUp pins => cases h; exact powerUp_keeps pins
  case mainPowerLoss => cases h; exact mainPowerLoss_keeps
  all_goals cases hc

/-- The waiting commands and the running time are none of what is kept. -/
theorem step_keeps (h : step s = .next t) : Keeps s t := by
  unfold step at h
  split at h
  next =>
    cases h
    exact ⟨⟨id, id, fun _ _ => id, id, id, id⟩, fun _ => id⟩
  next c rest _ =>
    have hpop : Keeps s { s with pending := rest } := ⟨⟨id, id, fun _ _ => id, id, id, id⟩, fun _ => id⟩
    exact hpop.trans (exec_keeps c h)

/-- Settles O56: every step keeps each block within its limits. -/
theorem capacitiesKept : Obligations.CapacitiesKept := by
  intro s t hstore hcircuit hqueue hdrive hgain h
  have k := step_keeps h
  exact ⟨k.store hstore, k.circuit hcircuit, k.queue hqueue, k.drive 2 le_rfl hdrive, k.cal hgain⟩

/-- Settles O57: every step keeps the binding. -/
theorem bindingKept : Obligations.BindingKept := fun _ _ hqueue hb h => (step_keeps h).binding hqueue hb

/-- Settles O58: every step keeps the references apart. -/
theorem referencesStayApart : Obligations.ReferencesStayApart := fun _ _ hs hc h => (step_keeps h).apart ⟨hs, hc⟩

end Sys2Proof.Machine
end

section
/-! PROOFS. What is said of every command: that it answers a next state, which commands act without main power,
what each leaves of the stored values, and that the link and the clock stay within their bounds. -/

namespace Sys2Proof.Machine

variable {s t u : State}

/-! ### The step -/

/-- Settles O1: the queue's front command is the one that `step` runs. -/
theorem stepRunsFrontCommand : Obligations.StepRunsFrontCommand := fun _ _ _ => rfl

/-- Settles O2: with no command waiting the step is `idle`. -/
theorem emptyQueueStepTicks : Obligations.EmptyQueueStepTicks := by
  intro s h
  simp only [step, h, idle]

/-! ### The events inside the part -/

/-- The events of the drum, the circuit, the panel, the printer and the Sender's timers: all but those of the link
and of the supply. -/
def innerEvent : Instr → Bool
  | .characterReceived _ | .interCharacterTimeout | .lineSent | .secondEvent | .batteryChange _
  | .retentionLatchSet | .powerUp _ | .mainPowerLoss => false
  | c => c.request?.isNone

theorem inner_quiet {c : Instr} (hc : innerEvent c = true) (h : exec c s = .next t) : Quiet s t := by
  cases c
  case coverClose => exact coverClose_quiet h
  case coverOpen => exact coverOpen_quiet h
  case sendKey => exact sendKey_quiet h
  case holdKey => exact holdKey_quiet h
  case stopKey => exact stopKey_quiet h
  case indexMark => exact indexMark_quiet h
  case samplePosition => exact samplePosition_quiet h
  case lockTimerExpiry => exact lockTimerExpiry_quiet h
  case tachometerSilence => exact tachometerSilence_quiet h
  case spinUpEntryExpiry => exact spinUpEntryExpiry_quiet h
  case idleHoldExpiry => exact idleHoldExpiry_quiet h
  case homeSwitch => exact homeSwitch_quiet h
  case returnTimerExpiry => exact returnTimerExpiry_quiet h
  case stepSense => exact stepSense_quiet h
  case endSwitch => exact endSwitch_quiet h
  case warmUpExpiry => exact warmUpExpiry_quiet h
  case lampCurrentFault => exact lampCurrentFault_quiet h
  case temperatureReading => exact temperatureReading_quiet h
  case carrierPresent => exact carrierPresent_quiet h
  case returnCharacter => exact returnCharacter_quiet h
  case slotEnd => exact slotEnd_quiet h
  case callupSignalEnd => exact callupSignalEnd_quiet h
  case endSignalEnd => exact endSignalEnd_quiet h
  case killSignalEnd => exact killSignalEnd_quiet h
  case holdDeadline => exact holdDeadline_quiet h
  case breakDeadline => exact breakDeadline_quiet h
  case toneOn => exact toneOn_quiet h
  case toneOff => exact toneOff_quiet h
  case armingTimerExpiry => exact armingTimerExpiry_quiet h
  case endingTimerExpiry => exact endingTimerExpiry_quiet h
  case slipLinePrinted => exact slipLinePrinted_quiet h
  case paperOut => exact paperOut_quiet h
  case paperIn => exact paperIn_quiet h
  all_goals cases hc

/-- A command is a request row, an event inside the part, or an event of the link or the supply. -/
theorem Instr.request_inner_or_other {P : Instr → Prop} (request : ∀ r : Request, P r.toInstr)
    (inner : ∀ c : Instr, innerEvent c = true → P c) (character : ∀ x, P (.characterReceived x))
    (timeout : P .interCharacterTimeout) (sent : P .lineSent) (second : P .secondEvent)
    (battery : ∀ b, P (.batteryChange b)) (latch : P .retentionLatchSet) (up : ∀ pins, P (.powerUp pins))
    (down : P .mainPowerLoss) (c : Instr) : P c := by
  induction c using Instr.request_or_event with
  | request r => exact request r
  | event c hc =>
    cases hi : innerEvent c with
    | true => exact inner c hi
    | false =>
      cases c
      case characterReceived x => exact character x
      case interCharacterTimeout => exact timeout
      case lineSent => exact sent
      case secondEvent => exact second
      case batteryChange b => exact battery b
      case retentionLatchSet => exact latch
      case powerUp pins => exact up pins
      case mainPowerLoss => exact down
      all_goals first | exact absurd hc (Option.some_ne_none _) | exact absurd hi.symm Bool.false_ne_true

/-! ### Every command answers a next state -/

theorem exec_next (c : Instr) (s : State) : ∃ t, exec c s = .next t := by
  cases c <;> exact ⟨_, rfl⟩

theorem live_pending {f : State → State} (hf : (f s).pending = s.pending) (h : live f s = .next t) :
    t.pending = s.pending := by
  unfold live at h
  cases h
  split
  · exact hf
  · rfl

theorem secondEvent_pending (s : State) : (secondEvent s).pending = s.pending := by
  unfold secondEvent
  repeat' split
  · rfl
  · unfold releaseTest
    refine (finish_pending (s := advanceClock ‹_› s) ?_)
    repeat' split
    all_goals first | exact Inner.refl _ | exact release_inner (Inner.refl _) _ _
  · rfl
  · rfl

theorem postBattery_inner (h : Inner s t) (b : Battery) : Inner s (postBattery b t) := by
  cases b
  · exact h
  · exact h.post _
  · exact h.post _

theorem batteryChange_pending (b : Battery) (s : State) : (batteryChange b s).pending = s.pending := by
  unfold batteryChange
  split
  · rfl
  · exact (postBattery_inner (Inner.refl _) b).pending

/-- What power-up leaves before the tests at the end of its step (R187). -/
def State.poweredUp (pins : PowerPins) (s : State) : State :=
  ((postBattery pins.battery (post (.power (!s.backup.latch)) (freshBlocks pins { s with powered := true }))).onReceipts
    (powerReceipts s.backup.latch s.backup.clock)).onBackup
      fun b => { powerBackup s.backup.latch b with battery := pins.battery }

theorem powerUp_eq (pins : PowerPins) (s : State) : powerUp pins s = finish (s.poweredUp pins) := rfl

theorem poweredUp_pending (pins : PowerPins) (s : State) : (s.poweredUp pins).pending = s.pending :=
  (postBattery_inner ((Inner.refl (freshBlocks pins { s with powered := true })).post _) pins.battery).pending

theorem exec_pending (c : Instr) (h : exec c s = .next t) : t.pending = s.pending := by
  induction c using Instr.request_inner_or_other with
  | request r => exact live_pending (deliver_pending r s) (exec_request r s ▸ h)
  | inner c hc => exact (inner_quiet hc h).pending
  | character x => exact live_pending (receive_pending x s) h
  | timeout => exact live_pending (lineTimeout_pending s) h
  | sent => exact live_pending (lineEnds_pending s) h
  | second => cases h; exact secondEvent_pending s
  | battery b =>
    cases h
    split
    · exact batteryChange_pending b s
    · rfl
  | latch =>
    cases h
    split <;> rfl
  | up pins =>
    cases h
    exact (finish_pending (Inner.refl _)).trans (poweredUp_pending pins s)
  | down =>
    cases h
    unfold mainPowerLoss
    split <;> rfl

/-- Settles O3: no arm of `exec` faults or refuses, and no block reaches the waiting commands. -/
theorem commandsAnswerNext : Obligations.CommandsAnswerNext := by
  intro c s
  obtain ⟨t, ht⟩ := exec_next c s
  exact ⟨t, ht, exec_pending c ht⟩

/-! ### Without main power -/

/-- Settles O4: every other row takes its command only while main power is present. -/
theorem powerlessPartTakesThreeCommands : Obligations.PowerlessPartTakesThreeCommands := by
  intro c s hoff hup hbattery hsecond hlatch
  cases c
  case powerUp pins => exact absurd rfl (hup pins)
  case batteryChange b => exact absurd rfl (hbattery b)
  case secondEvent => exact absurd rfl hsecond
  case retentionLatchSet => exact absurd rfl hlatch
  case mainPowerLoss => simp [exec, execMainPowerLoss, mainPowerLoss, hoff]
  all_goals exact congrArg Host.Outcome.next (if_neg (by rw [hoff]; exact Bool.false_ne_true))

/-! ### What each command leaves of the stored values -/

/-- The requests whose owner does no more than work inside the part. -/
def innerRequest : Request → Bool
  | .queue _ | .setKeys _ | .clockSet _ | .reportsOn | .reportsOff | .clear _ | .reset _ => false
  | _ => true

theorem Inner.of_eq (h : t = s) : Inner s t := h ▸ Inner.refl s

theorem ownerTakes_inner {r : Request} (h : innerRequest r = true) : Inner s (ownerTakes r s).1 := by
  cases r
  case mount => exact mount_inner _
  case start => exact start_inner _
  case hold => exact requestHold_inner _
  case go => exact requestGo_inner _
  case kill => exact requestKill_inner _
  case repeatPass => exact requestRepeat_inner _
  case list => exact .of_eq (list_same _)
  case stationDefine => exact stationDefine_inner _
  case stationOff => exact stationOff_inner _
  case stationRead => exact .of_eq (stationRead_same _)
  case maskChange => exact maskChange_inner _
  case getKeys => exact .of_eq (get_same _)
  case curveLoad => exact curveLoad_inner _
  case curveRead => exact .of_eq (curveRead_same _)
  case cal => exact cal_inner _
  case calDefault => exact calDefault_inner
  case receiptRead => exact .of_eq (receiptRead_same _)
  case slipRequest => exact slip_inner _
  case status => exact .of_eq (status_same _)
  case reportsRead => exact .of_eq (reportsRead_same _)
  all_goals first | exact Inner.refl s | cases h

/-- From `s` to `t` the settings, the clock, the counter and the latch stay, as far as the request may not write
them. -/
structure Stored (r : Request) (s t : State) : Prop where
  settings : (∀ a, r ≠ .setKeys a) → t.settings = s.settings
  clock : (∀ a, r ≠ .clockSet a) → t.backup.clock = s.backup.clock
  counter : (∀ a, r ≠ .queue a) → t.backup.counter = s.backup.counter
  latch : t.backup.latch = s.backup.latch

theorem Stored.refl (r : Request) (s : State) : Stored r s s := ⟨fun _ => rfl, fun _ => rfl, fun _ => rfl, rfl⟩

theorem Stored.trans {r : Request} (h : Stored r s t) (k : Stored r t u) : Stored r s u :=
  ⟨fun a => (k.settings a).trans (h.settings a), fun a => (k.clock a).trans (h.clock a),
    fun a => (k.counter a).trans (h.counter a), k.latch.trans h.latch⟩

theorem Inner.stored (h : Inner s t) (r : Request) : Stored r s t :=
  ⟨fun _ => h.settings, fun _ => by rw [h.backup], fun _ => by rw [h.backup], by rw [h.backup]⟩

/-- The link is none of the stored values. -/
theorem Stored.onLink {r : Request} (h : Stored r s t) (f : Link → Link) : Stored r s (t.onLink f) :=
  ⟨h.settings, h.clock, h.counter, h.latch⟩

theorem requestQueue_stored (a : List Text) (s : State) : Stored (.queue a) s (requestQueue a s).1 := by
  have hj : ∀ j, Stored (.queue a) s (enqueue j s) := fun _ => ⟨fun _ => rfl, fun _ => rfl, fun h => absurd rfl (h a), rfl⟩
  unfold requestQueue
  repeat' split
  all_goals first | exact Stored.refl _ s | exact hj _

theorem requestSet_stored (a : List Text) (s : State) : Stored (.setKeys a) s (requestSet a s).1 := by
  unfold requestSet
  repeat' split
  all_goals first
    | exact Stored.refl _ s
    | exact ⟨fun h => absurd rfl (h _), fun _ => rfl, fun _ => rfl, rfl⟩

theorem requestClockSet_stored (a : List Text) (s : State) : Stored (.clockSet a) s (requestClockSet a s).1 := by
  unfold requestClockSet
  repeat' split
  all_goals first
    | exact Stored.refl _ s
    | exact ⟨fun _ => rfl, fun h => absurd rfl (h _), fun _ => rfl, rfl⟩

theorem requestClear_stored (a : List Text) (s : State) : Stored (.clear a) s (requestClear a s).1 := by
  unfold requestClear
  split
  · exact ⟨fun _ => rfl, fun _ => rfl, fun _ => rfl, rfl⟩
  · exact Stored.refl _ s

theorem requestReset_stored (a : List Text) (s : State) : Stored (.reset a) s (requestReset a s).1 := by
  unfold requestReset
  split
  · exact ((Stored.refl _ s).onLink fun l => (resetLink s).link).trans (resetAll_inner.stored _)
  · exact Stored.refl _ s

theorem ownerTakes_stored (r : Request) (s : State) : Stored r s (ownerTakes r s).1 := by
  cases hr : innerRequest r with
  | true => exact (ownerTakes_inner hr).stored r
  | false =>
    cases r
    case queue a => exact requestQueue_stored a s
    case setKeys a => exact requestSet_stored a s
    case clockSet a => exact requestClockSet_stored a s
    case reportsOn => exact ⟨fun _ => rfl, fun _ => rfl, fun _ => rfl, rfl⟩
    case reportsOff => exact ⟨fun _ => rfl, fun _ => rfl, fun _ => rfl, rfl⟩
    case clear a => exact requestClear_stored a s
    case reset a => exact requestReset_stored a s
    all_goals exact nomatch hr

theorem takeRequest_stored (r : Request) (s : State) : Stored r s (takeRequest r s) :=
  (ownerTakes_stored r s).onLink fun l => { l with waiting := some (ownerTakes r s).2 }

theorem completed_stored (r : Request) (s : State) : Stored r s (completed r s) := by
  unfold completed
  dsimp only
  repeat' split
  · exact (Stored.refl r s).onLink _
  · exact ((Stored.refl r s).onLink _).onLink _
  · exact ((Stored.refl r s).onLink emptyBuffer).trans (takeRequest_stored r _)

theorem deliver_stored (r : Request) (s : State) : Stored r s (deliver r s) :=
  (completed_stored r s).onLink pumpLink

theorem request_stored {r : Request} (h : exec r.toInstr s = .next t) : Stored r s t := by
  rw [exec_request] at h
  unfold live at h
  cases h
  split
  · exact deliver_stored r s
  · exact Stored.refl r s

theorem settings_secondEvent (s : State) :
    (secondEvent s).settings = s.settings ∧ (secondEvent s).backup.counter = s.backup.counter ∧
      (secondEvent s).backup.latch = s.backup.latch := by
  unfold secondEvent
  repeat' split
  · exact ⟨rfl, rfl, rfl⟩
  next c hc hp =>
    have hi : Inner (advanceClock c s) (conclude (releaseTest (advanceClock c s))) := by
      refine conclude_inner ?_
      unfold releaseTest
      repeat' split
      all_goals first | exact Inner.refl _ | exact release_inner (Inner.refl _) _ _
    refine ⟨hi.settings, ?_, ?_⟩
    · exact (congrArg Backup.counter hi.backup :)
    · exact (congrArg Backup.latch hi.backup :)
  · exact ⟨rfl, rfl, rfl⟩
  · exact ⟨rfl, rfl, rfl⟩

theorem batteryChange_stored (b : Battery) (s : State) :
    (batteryChange b s).settings = s.settings ∧ (batteryChange b s).backup = { s.backup with battery := b } := by
  unfold batteryChange
  split
  next h => exact ⟨rfl, by rw [h]⟩
  next =>
    have hi := postBattery_inner (Inner.refl (s.onBackup fun x => { x with battery := b })) b
    exact ⟨hi.settings, hi.backup⟩

/-- Settles O54: what every command leaves of the stored values. -/
theorem onlyTheirCommandsWrite : Obligations.OnlyTheirCommandsWrite := by
  intro c s t h
  induction c using Instr.request_inner_or_other with
  | request r =>
    intro _ _
    have k := request_stored h
    refine ⟨fun hset _ _ => k.settings ?_, fun hclock _ _ => k.clock ?_, fun hqueue _ => k.counter ?_, fun _ _ => k.latch⟩
    · rintro a rfl; exact hset a rfl
    · rintro a rfl; exact hclock a rfl
    · rintro a rfl; exact hqueue a rfl
  | inner c hc =>
    have k := inner_quiet hc h
    exact fun _ _ => ⟨fun _ _ _ => k.settings, fun _ _ _ => by rw [k.backup], fun _ _ => by rw [k.backup],
      fun _ _ => by rw [k.backup]⟩
  | character x => exact fun hx => absurd rfl (hx x)
  | timeout =>
    intro _ _
    cases h
    unfold lineTimeout
    repeat' split
    all_goals exact ⟨fun _ _ _ => rfl, fun _ _ _ => rfl, fun _ _ => rfl, fun _ _ => rfl⟩
  | sent => exact fun _ hsent => absurd rfl hsent
  | second =>
    cases h
    obtain ⟨hset, hcounter, hlatch⟩ := settings_secondEvent s
    exact fun _ _ => ⟨fun _ _ _ => hset, fun _ _ hsecond => absurd rfl hsecond, fun _ _ => hcounter, fun _ _ => hlatch⟩
  | battery b =>
    cases h
    obtain ⟨hset, hbackup⟩ := batteryChange_stored b s
    split
    · exact fun _ _ => ⟨fun _ _ _ => hset, fun _ _ _ => (congrArg Backup.clock hbackup :),
        fun _ _ => (congrArg Backup.counter hbackup :), fun _ _ => (congrArg Backup.latch hbackup :)⟩
    · exact fun _ _ => ⟨fun _ _ _ => rfl, fun _ _ _ => rfl, fun _ _ => rfl, fun _ _ => rfl⟩
  | latch =>
    cases h
    split
    all_goals exact fun _ _ =>
      ⟨fun _ _ _ => rfl, fun _ _ _ => rfl, fun _ _ => rfl, fun _ hlatch => absurd rfl hlatch⟩
  | up pins =>
    exact fun _ _ => ⟨fun _ hup => absurd rfl (hup pins), fun _ hup => absurd rfl (hup pins),
      fun _ hup => absurd rfl (hup pins), fun hup => absurd rfl (hup pins)⟩
  | down =>
    intro _ _
    cases h
    refine ⟨fun _ _ hdown => absurd rfl hdown, fun _ _ _ => ?_, fun _ _ => ?_, fun _ _ => ?_⟩
    all_goals
      unfold mainPowerLoss
      split <;> rfl

end Sys2Proof.Machine
end

section
/-! PROOFS. The bounds of the link and the clock that every step keeps, and what a first power-up leaves. -/

namespace Sys2Proof.Machine

variable {s t u : State}

/-! ### The bounds of the link and the clock -/

/-- The step from `s` to `t` keeps the link's bounds and the clock a time. -/
structure Bounded (s t : State) : Prop where
  link : s.linkBounded → t.linkBounded
  clock : s.clockOk → t.clockOk

theorem Bounded.refl (s : State) : Bounded s s := ⟨id, id⟩

theorem Bounded.trans (h : Bounded s t) (k : Bounded t u) : Bounded s u :=
  ⟨k.link ∘ h.link, k.clock ∘ h.clock⟩

theorem posted_reports_length (l : Link) (rs : List Report) (h : l.reports.length ≤ 32) :
    (l.posted rs).reports.length ≤ 32 := by
  have hcap : Config.reportCap = 32 := rfl
  simp only [Link.posted, List.length_append, List.length_take, hcap]
  omega

theorem Inner.bounded (h : Inner s t) : Bounded s t := by
  obtain ⟨rs, hl⟩ := h.link
  constructor
  · intro ⟨hr, hb⟩
    rw [State.linkBounded, hl]
    exact ⟨posted_reports_length _ _ hr, hb⟩
  · rw [State.clockOk, State.clockOk, h.backup]; exact id

/-- A change of the link that adds no report and keeps the buffer's bound. -/
theorem Bounded.onLink (h : Bounded s t) {f : Link → Link}
    (hr : ∀ l, (f l).reports.length ≤ l.reports.length := by exact fun _ => Nat.le_refl _)
    (hb : ∀ l, l.buffer.length ≤ 120 → (f l).buffer.length ≤ 120 := by exact fun _ h => h) :
    Bounded s (t.onLink f) := by
  refine ⟨fun hs => ?_, h.clock⟩
  obtain ⟨h1, h2⟩ := h.link hs
  exact ⟨(hr t.link).trans h1, hb t.link h2⟩

theorem pumpLink_reports_length (l : Link) : (pumpLink l).reports.length ≤ l.reports.length := by
  unfold pumpLink
  split
  · exact Nat.le_refl _
  · split
    · exact Nat.le_refl _
    · split
      · exact Nat.le_refl _
      · split
        · exact Nat.le_refl _
        next h => rw [h]; exact Nat.le_succ _

theorem pumpLink_buffer (l : Link) : (pumpLink l).buffer = l.buffer := by
  unfold pumpLink
  repeat' split
  all_goals rfl

theorem Bounded.pump (h : Bounded s t) : Bounded s (pump t) :=
  h.onLink pumpLink_reports_length fun l hl => (pumpLink_buffer l).symm ▸ hl

theorem Bounded.emptied (h : Bounded s t) : Bounded s (t.onLink emptyBuffer) :=
  h.onLink (f := emptyBuffer) (fun _ => Nat.le_refl _) fun _ _ => Nat.zero_le _

theorem Bounded.post (h : Bounded s t) (r : Report) : Bounded s (post r t) :=
  h.trans ((Inner.refl t).post r).bounded

theorem Quiet.bounded (h : Quiet s t) : Bounded s t := by
  obtain ⟨u, hu, rfl | rfl⟩ := h
  · exact hu.bounded
  · exact hu.bounded.pump

theorem finish_bounded (h : Inner s t) : Bounded s (finish t) := (conclude_inner h).bounded.pump

theorem live_bounded {f : State → State} (hf : Bounded s (f s)) (h : live f s = .next t) : Bounded s t := by
  unfold live at h
  cases h
  split
  · exact hf
  · exact Bounded.refl s

/-! ### The request lines -/

theorem secOfDay_lt {c : Nat × Nat × Nat} (h : timeOk c = true) : secOfDay c < 86400 := by
  simp only [timeOk, Bool.and_eq_true, decide_eq_true_eq] at h
  unfold secOfDay
  omega

theorem requestQueue_bounded (a : List Text) (s : State) : Bounded s (requestQueue a s).1 := by
  have hj : ∀ j, Bounded s (enqueue j s) := fun _ => ⟨id, id⟩
  unfold requestQueue
  repeat' split
  all_goals first | exact Bounded.refl s | exact hj _

theorem requestSet_bounded (a : List Text) (s : State) : Bounded s (requestSet a s).1 := by
  unfold requestSet
  repeat' split
  all_goals first | exact Bounded.refl s | exact ⟨id, id⟩

theorem requestClockSet_bounded (a : List Text) (s : State) : Bounded s (requestClockSet a s).1 := by
  unfold requestClockSet
  repeat' split
  next c d _ _ hc =>
    refine ⟨id, fun _ x hx => ?_⟩
    obtain rfl := Option.some.inj hx
    exact ⟨hc.2.1, hc.2.2, secOfDay_lt hc.1⟩
  all_goals exact Bounded.refl s

theorem requestClear_bounded (a : List Text) (s : State) : Bounded s (requestClear a s).1 := by
  unfold requestClear
  split
  · exact ⟨id, id⟩
  · exact Bounded.refl s

theorem requestReset_bounded (a : List Text) (s : State) : Bounded s (requestReset a s).1 := by
  unfold requestReset
  split
  · exact ((Bounded.refl s).onLink (f := fun l => { emptyBuffer l with reports := [], overflow := false, paused := false })
      (fun _ => Nat.zero_le _) fun _ _ => Nat.zero_le _).trans resetAll_inner.bounded
  · exact Bounded.refl s

theorem ownerTakes_bounded (r : Request) (s : State) : Bounded s (ownerTakes r s).1 := by
  cases hr : innerRequest r with
  | true => exact (ownerTakes_inner hr).bounded
  | false =>
    cases r
    case queue a => exact requestQueue_bounded a s
    case setKeys a => exact requestSet_bounded a s
    case clockSet a => exact requestClockSet_bounded a s
    case reportsOn => exact ⟨id, id⟩
    case reportsOff => exact ⟨id, id⟩
    case clear a => exact requestClear_bounded a s
    case reset a => exact requestReset_bounded a s
    all_goals exact nomatch hr

theorem takeRequest_bounded (h : Bounded s t) (r : Request) : Bounded s (takeRequest r t) :=
  (h.trans (ownerTakes_bounded r t)).onLink (f := fun l => { l with waiting := some (ownerTakes r t).2 })

theorem completed_bounded (r : Request) (s : State) : Bounded s (completed r s) := by
  unfold completed
  dsimp only
  repeat' split
  · exact (Bounded.refl s).onLink
  · exact (Bounded.refl s).emptied.onLink
  · exact takeRequest_bounded (Bounded.refl s).emptied r

theorem deliver_bounded (r : Request) (s : State) : Bounded s (deliver r s) := (completed_bounded r s).pump

theorem acceptChar_within (x : RxChar) (now : Moment) (l : Link) (h : l.buffer.length ≤ 120) :
    (acceptChar x now l).buffer.length ≤ 120 := by
  have hcap : Config.lineCap = 120 := rfl
  unfold acceptChar
  split
  · simp only [List.length_append, List.length_singleton]
    omega
  · exact h

theorem acceptChar_reports (x : RxChar) (now : Moment) (l : Link) : (acceptChar x now l).reports = l.reports := by
  unfold acceptChar
  split <;> rfl

theorem receive_bounded (x : RxChar) (s : State) : Bounded s (receive x s) := by
  unfold receive
  repeat' split
  · exact Bounded.refl s
  · exact (Bounded.refl s).onLink
  · exact deliver_bounded _ s
  · exact Bounded.refl s
  · exact (Bounded.refl s).onLink (fun l => (acceptChar_reports x s.now l).symm ▸ Nat.le_refl _)
      fun l hl => acceptChar_within x s.now l hl

theorem lineTimeout_bounded (s : State) : Bounded s (lineTimeout s) := by
  unfold lineTimeout
  split
  · exact Bounded.refl s
  next m _ => exact ((((Inner.refl s).advance m).bounded.emptied).post _).pump

theorem takeHeld_bounded (h : Bounded s t) : Bounded s (takeHeld t) := by
  unfold takeHeld
  split
  · exact h
  · dsimp only
    split
    · exact takeRequest_bounded (h.onLink.post _) _
    · exact takeRequest_bounded h.onLink _

theorem lineEnds_bounded (s : State) : Bounded s (lineEnds s) := by
  unfold lineEnds
  split
  · exact Bounded.refl s
  · exact (takeHeld_bounded (Bounded.refl s).onLink.pump).pump

/-! ### The clock and the supply -/

theorem tickClock_in {c : DayTime} (h : 1 ≤ c.day ∧ c.day ≤ 9999 ∧ c.sec < 86400) :
    1 ≤ (tickClock c).day ∧ (tickClock c).day ≤ 9999 ∧ (tickClock c).sec < 86400 := by
  unfold tickClock nextDay
  split
  · dsimp only; omega
  · dsimp only; split <;> omega

theorem advanceClock_bounded {c : DayTime} (hc : s.backup.clock = some c) : Bounded s (advanceClock c s) := by
  refine ⟨id, fun hs x hx => ?_⟩
  obtain rfl := Option.some.inj hx
  exact tickClock_in (hs c hc)

theorem releaseTest_inner (s : State) : Inner s (releaseTest s) := by
  unfold releaseTest
  repeat' split
  all_goals first | exact Inner.refl _ | exact release_inner (Inner.refl _) _ _

theorem secondEvent_bounded (s : State) : Bounded s (secondEvent s) := by
  unfold secondEvent
  repeat' split
  · exact Bounded.refl s
  next hc _ => exact (advanceClock_bounded hc).trans (finish_bounded (releaseTest_inner _))
  · exact Bounded.refl s
  next hc _ _ => exact advanceClock_bounded hc

theorem batteryChange_bounded (b : Battery) (s : State) : Bounded s (batteryChange b s) := by
  unfold batteryChange
  split
  · exact Bounded.refl s
  · have hset : Bounded s (s.onBackup fun x => { x with battery := b }) := ⟨id, id⟩
    exact hset.trans (postBattery_inner (Inner.refl _) b).bounded

theorem freshBlocks_bounded (pins : PowerPins) (b : Bool) : Bounded s (freshBlocks pins { s with powered := b }) :=
  ⟨fun _ => ⟨Nat.zero_le _, Nat.zero_le _⟩, id⟩

theorem powerBackup_clock (lost : Bool) (b : Backup) (c : DayTime) (h : (powerBackup lost b).clock = some c) :
    b.clock = some c := by
  cases lost
  · exact h
  · exact nomatch h

theorem poweredUp_bounded (pins : PowerPins) (s : State) : Bounded s (s.poweredUp pins) := by
  have hpost : Bounded s (postBattery pins.battery (post (.power (!s.backup.latch))
      (freshBlocks pins { s with powered := true }))) :=
    ((freshBlocks_bounded pins true).post _).trans (postBattery_inner (Inner.refl _) _).bounded
  exact ⟨hpost.link, fun hs c hc => hpost.clock hs c (powerBackup_clock s.backup.latch _ c hc)⟩

theorem exec_bounded (c : Instr) (h : exec c s = .next t) : Bounded s t := by
  induction c using Instr.request_inner_or_other with
  | request r => exact live_bounded (deliver_bounded r s) (exec_request r s ▸ h)
  | inner c hc => exact (inner_quiet hc h).bounded
  | character x => exact live_bounded (receive_bounded x s) h
  | timeout => exact live_bounded (lineTimeout_bounded s) h
  | sent => exact live_bounded (lineEnds_bounded s) h
  | second => cases h; exact secondEvent_bounded s
  | battery b =>
    cases h
    split
    · exact (batteryChange_bounded b s).pump
    · exact ⟨id, id⟩
  | latch =>
    cases h
    split <;> exact ⟨id, id⟩
  | up pins =>
    cases h
    exact (poweredUp_bounded pins s).trans (finish_bounded (Inner.refl _))
  | down =>
    cases h
    unfold mainPowerLoss
    split
    · exact freshBlocks_bounded _ false
    · exact Bounded.refl s

/-- Settles O55: each command keeps the two bounds, and so does the step that runs it. -/
theorem linkAndClockBounded : Obligations.LinkAndClockBounded := by
  intro s t hlink hclock hstep
  unfold step at hstep
  split at hstep
  · cases hstep; exact ⟨hlink, hclock⟩
  next c rest _ =>
    have h := exec_bounded (s := { s with pending := rest }) c hstep
    exact ⟨h.link hlink, h.clock hclock⟩

/-! ### The first power-up -/

/-- Settles O59: the values are those of the blocks' fresh states, and the invariants are decided on them. -/
theorem resetState : Obligations.ResetState := by
  refine ⟨⟨rfl, rfl, rfl, rfl, rfl, rfl, rfl, rfl, rfl, rfl, rfl, rfl, rfl, rfl, rfl, rfl, rfl, rfl, rfl, rfl, rfl,
    rfl, rfl, rfl, rfl⟩, by decide, ?clock, by decide, by decide, by decide, by decide, ?gain, ?binding, by decide, by decide⟩
  case clock => exact fun c h => nomatch h
  case gain => exact ⟨by decide, fun r h => nomatch h⟩
  case binding => exact ⟨by decide, by decide, by decide, fun p h => nomatch h⟩

end Sys2Proof.Machine
end

section
/-! PROOFS. What the Link Unit does with a line: a refused request, and the gathering of a line in the input
buffer. -/

namespace Sys2Proof.Machine

variable {s t u : State}

/-! ### Refused requests -/

theorem askCopy_refused (n : Nat) (e : PassEntry) (s : State) (c : Code) :
    (askCopy n e s).2 = .no c → (askCopy n e s).1 = s := by
  unfold askCopy
  repeat' split
  all_goals first | exact fun _ => rfl | exact fun h => nomatch h

/-- Every branch of a request's row answers with the state as it was or with a reply that is no refusal. -/
theorem ownerTakes_refused (r : Request) (s : State) (c : Code) (h : (ownerTakes r s).2 = .no c) :
    (ownerTakes r s).1 = s := by
  revert h
  cases r
  case invalidLine => exact fun _ => rfl
  all_goals
    simp only [ownerTakes, requestQueue, requestMount, requestStart, requestHold, requestGo, requestKill, requestRepeat,
      requestList, requestStationDefine, requestStationOff, requestStationRead, requestStationList, requestMaskChange,
      requestMaskRead, requestSet, requestGet, requestCurveLoad, requestCurveRead, requestCal, requestCalDefault,
      requestClockRead, requestClockSet, requestReceiptRead, requestReceiptList, requestSlip, requestSlipRead,
      requestStatus, requestReportsOn, requestReportsOff, requestReportsRead, requestClear, requestReset]
    repeat' split
    all_goals first | exact fun _ => rfl | exact askCopy_refused _ _ s c | exact nofun

theorem onLink_emptyBuffer (hb : s.link.buffer = []) (hl : s.link.long = false) (ht : s.link.lineTimer = none) :
    s.onLink emptyBuffer = s := by
  have h : emptyBuffer s.link = s.link := by
    unfold emptyBuffer
    rw [← hb, ← hl, ← ht]
  rw [State.onLink, h]

/-- Settles O10: a refusal leaves the state to its owner, and its line only answers. -/
theorem refusedRequestOnlyReplies : Obligations.RefusedRequestOnlyReplies := by
  refine ⟨ownerTakes_refused, fun r s c ht hb hl hm hc => ?_⟩
  have hs : s.onLink emptyBuffer = s := onLink_emptyBuffer hb hl hm
  refine exec_takes r ht s _ ?_
  rw [hs]
  exact Prod.ext (ownerTakes_refused r s c hc) hc

end Sys2Proof.Machine
end

section
/-! PROOFS. The line of a request read back: the pieces between separators, decimal numbers with their leading
zeros, and the request names (R169, R170, section 9.3). -/

namespace Sys2Proof.Machine

variable {s t u : State}

/-! ### Pieces between separators -/

theorem splitOn_ne_nil (sep : Char) (w : Text) : splitOn sep w ≠ [] := by
  cases w with
  | nil => exact List.cons_ne_nil _ _
  | cons c cs =>
    unfold splitOn
    repeat' split
    all_goals exact List.cons_ne_nil _ _

theorem splitOn_append (sep : Char) (a b : Text) :
    splitOn sep (a ++ sep :: b) = splitOn sep a ++ splitOn sep b := by
  induction a with
  | nil => simp [splitOn]
  | cons c cs ih =>
    by_cases hc : c = sep
    · simp [splitOn, hc, ih]
    · cases hs : splitOn sep cs with
      | nil => exact absurd hs (splitOn_ne_nil sep cs)
      | cons w ws => simp [splitOn, hc, ih, hs]

theorem splitOn_plain {sep : Char} {w : Text} (h : sep ∉ w) : splitOn sep w = [w] := by
  induction w with
  | nil => rfl
  | cons c cs ih =>
    obtain ⟨hc, hcs⟩ := not_or.mp (mt List.mem_cons.mpr h)
    simp [splitOn, ih hcs, Ne.symm hc]

theorem splitOn_joinWith {sep : Char} {ws : List Text} (hne : ws ≠ []) (h : ∀ w ∈ ws, sep ∉ w) :
    splitOn sep (joinWith sep ws) = ws := by
  induction ws with
  | nil => exact absurd rfl hne
  | cons w ws ih =>
    have hw : splitOn sep w = [w] := splitOn_plain (h w List.mem_cons_self)
    cases ws with
    | nil => exact hw
    | cons v vs =>
      have hrest := ih (List.cons_ne_nil _ _) fun x hx => h x (List.mem_cons_of_mem _ hx)
      rw [joinWith, splitOn_append, hw, hrest, List.singleton_append]

theorem allSome_map_some {α : Type} (l : List α) : allSome (l.map some) = some l := by
  induction l with
  | nil => rfl
  | cons a l ih => simp [allSome, ih]

/-! ### Decimal numbers -/

theorem digitsValue_eq (w : Text) : digitsValue w = Nat.ofDigitChars 10 w 0 := rfl

theorem number?_eq_some {w : Text} (hne : w ≠ []) (h : ∀ c ∈ w, isDigit c = true) :
    number? w = some (digitsValue w) := by
  have hall : w.all isDigit = true := List.all_eq_true.mpr h
  simp [number?, hne, hall]

theorem isDigit_of_isDigit {c : Char} (h : c.isDigit = true) : isDigit c = true := by
  simp only [Char.isDigit, Bool.and_eq_true, decide_eq_true_eq] at h
  exact (isDigit_iff c).mpr h

theorem isDigit_digits {n : Nat} {c : Char} (h : c ∈ Nat.toDigits 10 n) : isDigit c = true :=
  isDigit_of_isDigit (Nat.isDigit_of_mem_toDigits (by decide) (by decide) h)

/-- Leading zeros count for nothing (R170). -/
theorem number?_zeros_digits (n k : Nat) : number? (List.replicate k '0' ++ Nat.toDigits 10 n) = some n := by
  have hne : List.replicate k '0' ++ Nat.toDigits 10 n ≠ [] := by simp
  rw [number?_eq_some hne, digitsValue_eq, Nat.ofDigitChars_append, Nat.ofDigitChars_replicate_zero, Nat.mul_zero,
    Nat.ofDigitChars_ten_toDigits]
  intro c hc
  obtain hc | hc := List.mem_append.mp hc
  · rw [List.eq_of_mem_replicate hc]; rfl
  · exact isDigit_digits hc

theorem number?_digits (n : Nat) : number? (Nat.toDigits 10 n) = some n := number?_zeros_digits n 0

theorem not_mem_digits {c : Char} (hc : isDigit c = false) (n : Nat) : c ∉ Nat.toDigits 10 n := by
  intro h
  rw [isDigit_digits h] at hc
  cases hc

theorem numbers?_join {ns : List Nat} (hne : ns ≠ []) :
    numbers? (joinWith ',' (ns.map (Nat.toDigits 10))) = some ns := by
  have hsplit : splitOn ',' (joinWith ',' (ns.map (Nat.toDigits 10))) = ns.map (Nat.toDigits 10) := by
    refine splitOn_joinWith (by simpa using hne) fun w hw => ?_
    obtain ⟨n, _, rfl⟩ := List.mem_map.mp hw
    exact not_mem_digits (by decide) n
  have hnumbers : (ns.map (Nat.toDigits 10)).map number? = ns.map some := by
    rw [List.map_map]
    exact List.map_congr_left fun n _ => number?_digits n
  rw [numbers?, hsplit, hnumbers, allSome_map_some]

/-! ### The words of a line -/

theorem wordOk_ne_nil {w : Text} (h : wordOk w = true) : w ≠ [] := by
  rintro rfl
  cases h

theorem wordOk_no_space {w : Text} (h : wordOk w = true) : ' ' ∉ w := by
  intro hmem
  simp only [wordOk, Bool.and_eq_true, List.all_eq_true, bne_iff_ne] at h
  exact (h.2 ' ' hmem).2 rfl

theorem reqName_text_wordOk (n : ReqName) : wordOk n.text = true := by cases n <;> decide

theorem reqName?_text (n : ReqName) : reqName? n.text = some n := by cases n <;> decide

theorem reqName?_none {w : Text} (h : ∀ n : ReqName, n.text ≠ w) : reqName? w = none := by
  simp [reqName?, h]

/-- The line of words is read by the name its first word spells (R169 checks 2 and 3). -/
theorem decodeLine_words {name : Text} {args : List Text} (hn : wordOk name = true)
    (ha : ∀ w ∈ args, wordOk w = true) :
    decodeLine ((joinWith ' ' (name :: args)).map some) false =
      match reqName? name with
      | none => .invalidLine .unknownName
      | some n => requestOf n args := by
  have hok : ∀ w ∈ name :: args, wordOk w = true := List.forall_mem_cons.mpr ⟨hn, ha⟩
  have hsplit : splitOn ' ' (joinWith ' ' (name :: args)) = name :: args :=
    splitOn_joinWith (List.cons_ne_nil _ _) fun w hw => wordOk_no_space (hok w hw)
  have hfull : (name :: args).any (·.isEmpty) = false := by
    refine List.any_eq_false.mpr fun w hw => ?_
    simpa using wordOk_ne_nil (hok w hw)
  unfold decodeLine
  rw [allSome_map_some]
  simp only [hsplit, hfull]
  rfl

/-- A line with an empty piece is ill-formed (R169 check 2). -/
theorem decodeLine_empty_piece {line : Text} (h : [] ∈ splitOn ' ' line) :
    decodeLine (line.map some) false = .invalidLine .illFormed := by
  have hany : (splitOn ' ' line).any (·.isEmpty) = true := List.any_eq_true.mpr ⟨[], h, rfl⟩
  unfold decodeLine
  rw [allSome_map_some]
  simp [hany]

theorem nil_mem_splitOn {line : Text} (h : line.head? = some ' ' ∨ line.getLast? = some ' ' ∨ [' ', ' '] <:+: line) :
    [] ∈ splitOn ' ' line := by
  obtain h | h | h := h
  · obtain ⟨rest, rfl⟩ := List.head?_eq_some_iff.mp h
    exact List.mem_cons_self
  · obtain ⟨front, rfl⟩ := List.getLast?_eq_some_iff.mp h
    rw [splitOn_append]
    exact List.mem_append_right _ List.mem_cons_self
  · obtain ⟨a, b, rfl⟩ := h
    rw [List.append_assoc, List.cons_append, List.singleton_append, splitOn_append]
    exact List.mem_append_right _ List.mem_cons_self

/-! ### Requests and their lines -/

/-- The words a request of well-formed shape is written as are read as that request. -/
theorem requestOf_requestWords {r : Request} {n : ReqName} {args : List Text} (hs : r.shapeOk = true)
    (hw : requestWords r = some (n, args)) : requestOf n args = r := by
  cases r
  case queue a => exact Laws.Encodes.queue a _ n args rfl hs hw
  case mount a => exact Laws.Encodes.mount a _ n args rfl hs hw
  case start a => exact Laws.Encodes.start a _ n args rfl hs hw
  case hold a => exact Laws.Encodes.hold a _ n args rfl hs hw
  case go a => exact Laws.Encodes.go a _ n args rfl hs hw
  case kill a => exact Laws.Encodes.kill a _ n args rfl hs hw
  case repeatPass a => exact Laws.Encodes.repeatPass a _ n args rfl hs hw
  case list a => exact Laws.Encodes.list a _ n args rfl hs hw
  case stationDefine a => exact Laws.Encodes.stationDefine a _ n args rfl hs hw
  case stationOff a => exact Laws.Encodes.stationOff a _ n args rfl hs hw
  case stationRead a => exact Laws.Encodes.stationRead a _ n args rfl hs hw
  case stationList => exact Laws.Encodes.stationList _ n args rfl hs hw
  case maskChange a => exact Laws.Encodes.maskChange a _ n args rfl hs hw
  case maskRead => exact Laws.Encodes.maskRead _ n args rfl hs hw
  case setKeys a => exact Laws.Encodes.setKeys a _ n args rfl hs hw
  case getKeys a => exact Laws.Encodes.getKeys a _ n args rfl hs hw
  case curveLoad a => exact Laws.Encodes.curveLoad a _ n args rfl hs hw
  case curveRead a => exact Laws.Encodes.curveRead a _ n args rfl hs hw
  case cal a => exact Laws.Encodes.cal a _ n args rfl hs hw
  case calDefault => exact Laws.Encodes.calDefault _ n args rfl hs hw
  case clockRead => exact Laws.Encodes.clockRead _ n args rfl hs hw
  case clockSet a => exact Laws.Encodes.clockSet a _ n args rfl hs hw
  case receiptRead a => exact Laws.Encodes.receiptRead a _ n args rfl hs hw
  case receiptList => exact Laws.Encodes.receiptList _ n args rfl hs hw
  case slipRequest a => exact Laws.Encodes.slipRequest a _ n args rfl hs hw
  case slipRead => exact Laws.Encodes.slipRead _ n args rfl hs hw
  case status a => exact Laws.Encodes.status a _ n args rfl hs hw
  case reportsOn => exact Laws.Encodes.reportsOn _ n args rfl hs hw
  case reportsOff => exact Laws.Encodes.reportsOff _ n args rfl hs hw
  case reportsRead a => exact Laws.Encodes.reportsRead a _ n args rfl hs hw
  case clear a => exact Laws.Encodes.clear a _ n args rfl hs hw
  case reset a => exact Laws.Encodes.reset a _ n args rfl hs hw
  case invalidLine => cases hw

theorem encodeLine_eq_some {r : Request} {line : Text} (h : encodeLine r = some line) :
    ∃ n args, requestWords r = some (n, args) ∧ line = joinWith ' ' (n.text :: args) := by
  obtain ⟨p, hp, rfl⟩ := Option.map_eq_some_iff.mp h
  exact ⟨p.1, p.2, hp, rfl⟩

theorem requestWords_wordOk {r : Request} {n : ReqName} {args : List Text} (h : r.lineOk = true)
    (hw : requestWords r = some (n, args)) : ∀ w ∈ args, wordOk w = true := by
  simp only [Request.lineOk, hw, Bool.and_eq_true, List.all_eq_true] at h
  exact h.1

/-- Settles O5: the words of the line are read back, and the row they are read as is the request. -/
theorem requestLineRoundTrip : Obligations.RequestLineRoundTrip := by
  intro r line hr hline
  obtain ⟨hshape, hlineOk⟩ := (Bool.and_eq_true _ _ ▸ hr : r.shapeOk = true ∧ r.lineOk = true)
  obtain ⟨n, args, hw, rfl⟩ := encodeLine_eq_some hline
  rw [decodeLine_words (reqName_text_wordOk n) (requestWords_wordOk hlineOk hw), reqName?_text]
  exact requestOf_requestWords hshape hw

/-! ### A carriage return -/

theorem joinWith_ne_nil {sep : Char} {w : Text} {ws : List Text} (h : w ≠ []) : joinWith sep (w :: ws) ≠ [] := by
  cases ws with
  | nil => exact h
  | cons v vs => simp [joinWith, h]

theorem receive_lineEnd (hheld : s.link.held = none) (hline : s.link.partialLine = true) :
    receive ⟨13#8, false⟩ s = deliver (decodeLine s.link.buffer s.link.long) s := by
  simp [receive, isLF, isCR, hheld, hline]

/-- Settles O6: the carriage return delivers the line, which is read back as the request (O5). -/
theorem carriageReturnTakesRequest : Obligations.CarriageReturnTakesRequest := by
  intro r line s hr hline hp hheld hbuf hlong
  have hne : line ≠ [] := by
    obtain ⟨n, args, _, rfl⟩ := encodeLine_eq_some hline
    exact joinWith_ne_nil (wordOk_ne_nil (reqName_text_wordOk n))
  have hpartial : s.link.partialLine = true := by simp [Link.partialLine, hbuf, hne]
  have htaken := receive_lineEnd hheld hpartial
  rw [hbuf, hlong, requestLineRoundTrip r line hr hline] at htaken
  rw [exec_request, live_on _ hp, ← htaken]
  exact live_on (receive _) hp

/-! ### Lines that are no request -/

/-- Settles O7: the checks on a line, the refusal of each, and leading zeros. -/
theorem illFormedLinesRefused : Obligations.IllFormedLinesRefused := by
  refine ⟨⟨fun _ => rfl, fun chars h => ?unprintable, fun line h => decodeLine_empty_piece (nil_mem_splitOn h),
    fun name args hn ha hname => ?unknown, fun w s ht => ?reply⟩, number?_zeros_digits⟩
  case unprintable =>
    simp [decodeLine, allSome_of_none_mem h]
  case unknown =>
    rw [decodeLine_words hn ha, reqName?_none hname]
  case reply =>
    refine exec_takes (.invalidLine w) ht s _ ?_
    cases w <;> rfl

end Sys2Proof.Machine
end

section
/-! PROOFS. A received character at the input buffer and its timer; what is sent when a line ends, and the line
that is held meanwhile (R167, R168, R169, R171). -/

namespace Sys2Proof.Machine

variable {s t u : State}

/-! ### A received character -/

theorem isLF_false {c : RxChar} (h : c.framing = true ∨ c.code ≠ 10#8) : isLF c = false := by
  obtain h | h := h <;> simp [isLF, h]

theorem isCR_false {c : RxChar} (h : c.framing = true ∨ c.code ≠ 13#8) : isCR c = false := by
  obtain h | h := h <;> simp [isCR, h]

theorem receive_held {c : RxChar} (hc : isLF c = false) (hheld : s.link.held.isSome) :
    receive c s = s.onLink fun l => { l with overrun := true } := by
  simp [receive, hc, hheld]

theorem receive_character {c : RxChar} (hlf : isLF c = false) (hcr : isCR c = false) (hheld : s.link.held = none) :
    receive c s = s.onLink (acceptChar c s.now) := by
  simp [receive, hlf, hcr, hheld]

theorem bufferChar_eq (c : RxChar) :
    bufferChar c =
      if c.framing = false ∧ 32 ≤ c.code.toNat ∧ c.code.toNat ≤ 126 then some (Char.ofNat c.code.toNat) else none := by
  cases hf : c.framing <;> simp [bufferChar, hf]

/-- A character that ends no line is told apart from CR and LF by one of the two tests. -/
theorem isLF_isCR_false {c : RxChar} (h : c.framing = true ∨ (c.code ≠ 10#8 ∧ c.code ≠ 13#8)) :
    isLF c = false ∧ isCR c = false :=
  ⟨isLF_false (h.imp id And.left), isCR_false (h.imp id And.right)⟩

/-- Settles O8: the characters that are dropped, lost, kept and discarded, and the timer that drops them. -/
theorem inputBufferGathersLine : Obligations.InputBufferGathersLine := by
  refine ⟨fun s hp => ?lineFeed, fun c s hp hc hheld => ?lost, fun s hp hheld hbuf hlong => ?emptyLine,
    fun c s hp hheld hc hroom => ?kept, fun c s hp hheld hc hfull => ?discarded, fun s m hp hm => ?timer⟩
  case lineFeed => exact live_on (receive _) hp
  case lost =>
    refine (live_on (receive c) hp).trans ?_
    rw [receive_held (isLF_false hc) hheld]
    rfl
  case emptyLine =>
    refine (live_on (receive _) hp).trans ?_
    simp [receive, isLF, isCR, hheld, Link.partialLine, hbuf, hlong]
  case kept =>
    obtain ⟨hlf, hcr⟩ := isLF_isCR_false hc
    refine (live_on (receive c) hp).trans ?_
    have hcap : Config.lineCap = 120 := rfl
    rw [receive_character hlf hcr hheld, State.onLink, acceptChar, hcap, if_pos hroom, bufferChar_eq]
    rfl
  case discarded =>
    obtain ⟨hlf, hcr⟩ := isLF_isCR_false hc
    refine (live_on (receive c) hp).trans ?_
    have hcap : Config.lineCap = 120 := rfl
    rw [receive_character hlf hcr hheld, State.onLink, acceptChar, hcap, if_neg (by omega)]
    rfl
  case timer =>
    refine (live_on lineTimeout hp).trans ?_
    simp only [lineTimeout, hm]
    rw [pump_eq, post_eq]
    rfl

/-! ### The end of a line sent -/

theorem pumped_busy {l : Link} (h : l.sending.isSome) : l.pumped = l := by simp [Link.pumped, h]

theorem pump_busy (h : s.link.sending.isSome) : pump s = s := by rw [pump_eq, pumped_busy h]

theorem takeHeld_none (h : s.link.held = none) : takeHeld s = s := by simp [takeHeld, h]

/-- With no line held the transmitter goes on to its next line, if it has one. -/
theorem lineEnds_next {o : OutLine} (hsend : s.link.sending = some o) (hheld : s.link.held = none) :
    lineEnds s = pump (pump { s with link := { s.link with sending := none } }) := by
  have h : (pump (s.onLink fun l => { l with sending := none })).link.held = none := by
    rw [pump_eq]
    unfold Link.pumped State.onLink
    dsimp only
    repeat' split
    all_goals exact hheld
  simp only [lineEnds, hsend]
  rw [takeHeld_none h]
  rfl

/-- The link once a waiting reply has begun and the held line's turn has come (R169). -/
def Link.resumed (w : Reply) (l : Link) : Link :=
  { l with sending := some (.reply w), waiting := none, held := none, overrun := false }.posted
    (if l.overrun then [.lnkOverrun] else [])

theorem takeHeld_some {r : Request} (h : s.link.held = some r) :
    takeHeld s = takeRequest r
      { s with
        link := { s.link with held := none, overrun := false }.posted (if s.link.overrun then [.lnkOverrun] else []) } := by
  unfold takeHeld
  simp only [h]
  congr 1
  split
  · exact post_eq _ _
  · rw [posted_nil]; rfl

theorem takeRequest_sending (r : Request) (s : State) : (takeRequest r s).link.sending = s.link.sending :=
  (ownerTakes_kept r s).sending

/-- The held line is taken while the reply that waited is sent. -/
theorem lineEnds_held {o : OutLine} {w : Reply} {r : Request} (hsend : s.link.sending = some o)
    (hwait : s.link.waiting = some w) (hheld : s.link.held = some r) :
    lineEnds s = takeRequest r { s with link := s.link.resumed w } := by
  have hreply : pump (s.onLink fun l => { l with sending := none }) =
      { s with link := { s.link with sending := some (.reply w), waiting := none } } := by
    rw [pump_eq]
    simp [State.onLink, Link.pumped, hwait]
  simp only [lineEnds, hsend]
  rw [hreply]
  exact (congrArg pump (takeHeld_some (by exact hheld))).trans (pump_busy (by rw [takeRequest_sending]; rfl))

theorem deliver_waiting (r : Request) (hheld : s.link.held = none) (hwait : s.link.waiting.isSome)
    (hsend : s.link.sending.isSome) :
    deliver r s = (s.onLink emptyBuffer).onLink fun l => { l with held := some r, overrun := false } := by
  simp only [deliver, completed, hheld, hwait]
  exact pump_busy hsend

theorem deliver_lost (r : Request) (hheld : s.link.held.isSome) (hsend : s.link.sending.isSome) :
    deliver r s = s.onLink fun l => { l with overrun := true } := by
  simp only [deliver, completed, hheld]
  exact pump_busy hsend

/-- Settles O9: what the transmitter begins, and what becomes of a line that ends meanwhile. -/
theorem linesSentHeldAndTaken : Obligations.LinesSentHeldAndTaken := by
  refine ⟨⟨fun s o r hp hsend hheld hwait => ?reply, fun s o x rest hp hsend hheld hwait hpause hreports => ?report,
    fun s o hp hsend hheld hwait hnone => ?nothing, fun r s hp hheld hwait hsend => ?held,
    fun r s hp hheld hsend => ?lost⟩, fun s o w r hp hsend hwait hheld => ?taken⟩
  case reply =>
    refine (live_on lineEnds hp).trans ?_
    rw [lineEnds_next hsend hheld]
    simp [pump_eq, Link.pumped, hwait]
  case report =>
    refine (live_on lineEnds hp).trans ?_
    rw [lineEnds_next hsend hheld]
    simp [pump_eq, Link.pumped, hwait, hpause, hreports]
  case nothing =>
    refine (live_on lineEnds hp).trans ?_
    rw [lineEnds_next hsend hheld]
    obtain hpause | hempty := hnone
    · simp [pump_eq, Link.pumped, hwait, hpause]
    · cases hpause : s.link.paused <;> simp [pump_eq, Link.pumped, hwait, hpause, hempty]
  case held => rw [exec_request, live_on _ hp, deliver_waiting r hheld hwait hsend]; rfl
  case lost => rw [exec_request, live_on _ hp, deliver_lost r hheld hsend]; rfl
  case taken =>
    refine (live_on lineEnds hp).trans ?_
    rw [lineEnds_held hsend hwait hheld]
    rfl

end Sys2Proof.Machine
end

section
/-! PROOFS. SET and GET (R176 to R179): the words in their form, the checks in their order, and what the
settings store holds under each key afterwards. -/

namespace Sys2Proof.Machine

variable {s : State} {k : Key} {v w : Text} {kvs : List (Key × Text)}

/-! ### Words and values -/

theorem keyValue?_none (h : '=' ∉ w) : keyValue? w = none := by
  have hne : ∀ c ∈ w, (c != '=') = true := fun c hc => bne_iff_ne.mpr fun heq => h (heq ▸ hc)
  have hdrop : w.dropWhile (· != '=') = [] := List.dropWhile_eq_nil_iff.mpr hne
  simp [keyValue?, hdrop]

theorem number?_of_isNumber (h : isNumber w) : number? w = some (digitsValue w) :=
  number?_eq_some h.1 fun c hc => (isDigit_iff c).mpr (h.2 c hc)

theorem allSome_map_of {α β : Type} {f : α → Option β} {g : α → β} {l : List α} (h : ∀ x ∈ l, f x = some (g x)) :
    allSome (l.map f) = some (l.map g) := by
  have hmap : l.map f = (l.map g).map some := by
    rw [List.map_map]
    exact List.map_congr_left h
  rw [hmap, allSome_map_some]

/-- What a reading finds again in every word it was written as. -/
theorem allSome_read_back {α β : Type} {write : α → β} {read : β → Option α} {l : List α}
    (h : ∀ x ∈ l, read (write x) = some x) : allSome ((l.map write).map read) = some l := by
  have hmap : (l.map write).map read = l.map some := by
    rw [List.map_map]
    exact List.map_congr_left h
  rw [hmap, allSome_map_some]

theorem allSome_map_none {α β : Type} {f : α → Option β} {l : List α} (h : ∃ x ∈ l, f x = none) :
    allSome (l.map f) = none := by
  obtain ⟨x, hx, hf⟩ := h
  exact allSome_of_none_mem (List.mem_map.mpr ⟨x, hx, hf⟩)

/-! ### Keys -/

theorem Key.text_no_equals (k : Key) : '=' ∉ k.text := by cases k <;> decide

theorem Key.text_ne_nil (k : Key) : k.text ≠ [] := by cases k <;> decide

theorem key?_text (k : Key) : key? k.text = some k := by cases k <;> rfl

theorem key?_none (h : ∀ k : Key, k.text ≠ w) : key? w = none := by simp [key?, h]

theorem key?_eq_some_iff : key? w = some k ↔ k.text = w := by
  constructor
  · intro h
    simpa using List.find?_some h
  · rintro rfl
    exact key?_text k

theorem Key.text_injective : Function.Injective Key.text := fun k k' h =>
  Option.some.inj ((key?_text k).symm.trans (h ▸ key?_text k'))

theorem Key.mem_readOnly : k ∈ ([.temp, .gain, .version] : List Key) ↔ k.isReadOnly = true := by
  cases k <;> decide

theorem Key.mem_guarded :
    k ∈ ([.white, .black, .phase, .rephase, .answer, .answerMax, .slots, .silence, .gather] : List Key) ↔
      k.isGuarded = true := by
  cases k <;> decide

/-! ### A word of SET in its form (stage 1 of R177) -/

/-- The value of a SET word is in the form of its key. -/
def Key.Formed (k : Key) (v : Text) : Prop :=
  v ≠ [] ∧ (k ∉ ([.temp, .gain, .version] : List Key) → if k = .bureau then isName 12 v else isNumber v)

theorem setWord?_empty {key : Text} (hkey : '=' ∉ key) (h : key = [] ∨ v = []) : setWord? (key ++ '=' :: v) = none := by
  simp only [setWord?, keyValue?_append hkey]
  exact if_pos (by simpa using h)

theorem setWord?_append {key : Text} (hkey : '=' ∉ key) (hk : key ≠ []) (hv : v ≠ []) :
    setWord? (key ++ '=' :: v) =
      match key? key with
      | none => some (key, v)
      | some k =>
        if k.isReadOnly then some (key, v)
        else if k = .bureau then (name? 12 v).map fun _ => (key, v)
        else (number? v).map fun _ => (key, v) := by
  simp only [setWord?, keyValue?_append hkey]
  refine (if_neg (by simp [hk, hv])).trans ?_
  cases key? key <;> rfl

theorem setWord?_formed (h : k.Formed v) : setWord? (k.text ++ '=' :: v) = some (k.text, v) := by
  obtain ⟨hv, hform⟩ := h
  rw [setWord?_append k.text_no_equals k.text_ne_nil hv, key?_text]
  rw [Key.mem_readOnly] at hform
  dsimp only
  by_cases hro : k.isReadOnly = true
  · rw [if_pos hro]
  · rw [if_neg hro]
    have hvalue := hform hro
    split_ifs at hvalue ⊢ with hb
    · rw [name?_eq_some_iff.mpr ⟨hvalue, rfl⟩]; rfl
    · rw [number?_of_isNumber hvalue]; rfl

theorem setWord?_not_formed (h : ¬ k.Formed v) : setWord? (k.text ++ '=' :: v) = none := by
  by_cases hv : v = []
  · subst hv
    simp [setWord?, keyValue?_append k.text_no_equals]
  · rw [setWord?_append k.text_no_equals k.text_ne_nil hv, key?_text]
    rw [Key.Formed, Key.mem_readOnly] at h
    dsimp only
    by_cases hro : k.isReadOnly = true
    · exact absurd ⟨hv, fun hn => absurd hro hn⟩ h
    · rw [if_neg hro]
      have hvalue : ¬ if k = .bureau then isName 12 v else isNumber v := fun hn => h ⟨hv, fun _ => hn⟩
      split_ifs at hvalue ⊢ with hb
      · have hname : name? 12 v = none :=
          Option.eq_none_iff_forall_ne_some.mpr fun x hx => hvalue (name?_eq_some_iff.mp hx).1
        rw [hname]; rfl
      · rw [number?_of_not_isNumber hvalue]; rfl

theorem setWord?_unknown {key : Text} (hkey : '=' ∉ key) (hk : key ≠ []) (hv : v ≠ [])
    (hnone : ∀ k : Key, k.text ≠ key) : setWord? (key ++ '=' :: v) = some (key, v) := by
  rw [setWord?_append hkey hk hv, key?_none hnone]

/-! ### The settings under their keys -/

/-- What a key's word in a SET is held as. -/
def heldAs (p : Key × Text) : KeyValue := if p.1 = .bureau then .word p.2 else .num (digitsValue p.2)

theorem keyValue_putValue_same (hk : k.isReadOnly = false) :
    (s.onSettings (putValue (k, v))).keyValue k = heldAs (k, v) := by
  cases k <;> first | rfl | cases hk

theorem keyValue_putValue_other {k' : Key} (h : k ≠ k') :
    (s.onSettings (putValue (k, v))).keyValue k' = s.keyValue k' := by
  cases k <;> cases k' <;> first | rfl | exact absurd rfl h

theorem keyValue_readOnly (hk : k.isReadOnly = true) (f : Settings → Settings) :
    (s.onSettings f).keyValue k = s.keyValue k := by
  cases k <;> first | rfl | cases hk

theorem onSettings_putAll_cons (p : Key × Text) (s : State) :
    s.onSettings (putAll (p :: kvs)) = (s.onSettings (putValue p)).onSettings (putAll kvs) := rfl

theorem keyValue_putAll_other (h : ∀ p ∈ kvs, p.1 ≠ k) :
    (s.onSettings (putAll kvs)).keyValue k = s.keyValue k := by
  induction kvs generalizing s with
  | nil => rfl
  | cons p kvs ih =>
    obtain ⟨hp, hkvs⟩ := List.forall_mem_cons.mp h
    rw [onSettings_putAll_cons, ih hkvs, keyValue_putValue_other hp]

/-- With distinct keys a key holds the word given for it. -/
theorem keyValue_putAll_mem {p : Key × Text} (hnd : (kvs.map (·.1)).Nodup) (hp : p ∈ kvs)
    (hro : p.1.isReadOnly = false) : (s.onSettings (putAll kvs)).keyValue p.1 = heldAs p := by
  induction kvs generalizing s with
  | nil => cases hp
  | cons q kvs ih =>
    obtain ⟨hq, hrest⟩ := List.nodup_cons.mp hnd
    rw [onSettings_putAll_cons]
    obtain rfl | hp := List.mem_cons.mp hp
    · rw [keyValue_putAll_other fun r hr he => hq (List.mem_map.mpr ⟨r, hr, he⟩)]
      exact keyValue_putValue_same hro
    · exact ih hrest hp

/-- The number a numeric key is left with: the one given for it, otherwise the stored one. -/
theorem keyValue_putAll_num {stored : Nat} (hnd : (kvs.map (·.1)).Nodup) (hro : k.isReadOnly = false)
    (hb : k ≠ .bureau) (hs : s.keyValue k = .num stored) :
    (s.onSettings (putAll kvs)).keyValue k =
      .num (((kvs.find? fun p => p.1 == k).map fun p => digitsValue p.2).getD stored) := by
  cases hf : kvs.find? fun p => p.1 == k with
  | none =>
    have hother : ∀ p ∈ kvs, p.1 ≠ k := by simpa using hf
    rw [keyValue_putAll_other hother, hs]
    rfl
  | some p =>
    have hpk : p.1 = k := by simpa using List.find?_some hf
    subst hpk
    rw [keyValue_putAll_mem hnd (List.mem_of_find?_eq_some hf) hro, heldAs, if_neg hb]
    rfl

/-! ### The checks of SET (R177) -/

theorem requestSet_illFormed {args : List Text} (h : ∃ w ∈ args, setWord? w = none) :
    requestSet args s = (s, .no .form) := by
  have hnone := allSome_map_none h
  unfold requestSet
  split
  · rfl
  · rfl
  next hsome => rw [hnone] at hsome; cases hsome

theorem requestSet_words {args : List Text} {words : List (Text × Text)} (hne : args ≠ [])
    (h : allSome (args.map setWord?) = some words) :
    requestSet args s =
      match setKeys? words with
      | none => (s, .no .unknown)
      | some kvs =>
        match setRefusal kvs s with
        | some c => (s, .no c)
        | none =>
          let t := s.onSettings (putAll kvs)
          (t, .setKeys ((kvs.filter fun p => !p.1.isReadOnly).map fun p => (p.1, t.keyValue p.1))) := by
  unfold requestSet
  split
  · exact absurd rfl hne
  next hnone => rw [h] at hnone; cases hnone
  next hsome =>
    rw [h] at hsome
    cases hsome
    rfl

theorem requestSet_unknown {words : List (Text × Text)} (hwords : ∀ p ∈ words, setWord? (p.1 ++ '=' :: p.2) = some p)
    (hunknown : ∃ p ∈ words, ∀ k : Key, k.text ≠ p.1) :
    requestSet (words.map fun p => p.1 ++ '=' :: p.2) s = (s, .no .unknown) := by
  have hall : allSome ((words.map fun p => p.1 ++ '=' :: p.2).map setWord?) = some words :=
    allSome_read_back hwords
  have hkeys : setKeys? words = none := by
    obtain ⟨p, hp, hnone⟩ := hunknown
    exact allSome_map_none ⟨p, hp, by rw [key?_none hnone]; rfl⟩
  have hne : (words.map fun p => p.1 ++ '=' :: p.2) ≠ [] := by
    obtain ⟨p, hp, _⟩ := hunknown
    exact List.ne_nil_of_mem (List.mem_map_of_mem hp)
  rw [requestSet_words hne hall, hkeys]

/-- The words of a SET that names keys of the table. -/
def setWords (kvs : List (Key × Text)) : List Text := kvs.map fun p => p.1.text ++ '=' :: p.2

theorem requestSet_keys (hne : kvs ≠ []) (hform : ∀ p ∈ kvs, p.1.Formed p.2) :
    requestSet (setWords kvs) s =
      match setRefusal kvs s with
      | some c => (s, .no c)
      | none =>
        let t := s.onSettings (putAll kvs)
        (t, .setKeys ((kvs.filter fun p => !p.1.isReadOnly).map fun p => (p.1, t.keyValue p.1))) := by
  have hwords : allSome ((setWords kvs).map setWord?) = some (kvs.map fun p => (p.1.text, p.2)) := by
    rw [setWords, List.map_map]
    exact allSome_map_of fun p hp => setWord?_formed (hform p hp)
  have hkeys : setKeys? (kvs.map fun p => (p.1.text, p.2)) = some kvs := by
    rw [setKeys?, List.map_map, allSome_map_of (g := id), List.map_id]
    intro p _
    simp [key?_text]
  rw [requestSet_words (by simpa [setWords] using hne) hwords, hkeys]

theorem requestSet_refused {c : Code} (hne : kvs ≠ []) (hform : ∀ p ∈ kvs, p.1.Formed p.2)
    (h : setRefusal kvs s = some c) : requestSet (setWords kvs) s = (s, .no c) := by
  rw [requestSet_keys hne hform, h]

/-! #### The stages of the refusal -/

theorem not_isReadOnly (h : k ∉ ([.temp, .gain, .version] : List Key)) : k.isReadOnly = false := by
  rw [Key.mem_readOnly] at h
  exact Bool.eq_false_iff.mpr h

theorem value_of_formed (hform : k.Formed v) (hro : k ∉ ([.temp, .gain, .version] : List Key)) (hb : k ≠ .bureau) :
    (number? v).getD 0 = digitsValue v := by
  have hnum := hform.2 hro
  rw [if_neg hb] at hnum
  rw [number?_of_isNumber hnum]
  rfl

theorem lt_foldl_max {a : Nat} (l : List Nat) (b : Nat) : a < l.foldl max b ↔ a < b ∨ ∃ n ∈ l, a < n := by
  induction l generalizing b with
  | nil => simp
  | cons n l ih => simp [ih, or_assoc]

theorem lt_highestDefined {a : Nat} :
    a < s.highestDefined ↔ ∃ n ∈ List.range' 1 16, a < n ∧ (s.station n).name.isSome = true := by
  simp [State.highestDefined, lt_foldl_max, State.defined, stationNumbers, and_comm, and_left_comm, and_assoc]

theorem anyActive_iff : s.anyActive = true ↔ ∃ j ∈ s.queue.jobs, j.state = .active := by
  simp [State.anyActive]

/-- The least and the greatest value of a numeric key (the settings table). -/
def Key.limits (k : Key) : Nat × Nat :=
  match k with
  | .white => (1000, 3000)
  | .black => (1000, 3000)
  | .phase => (10, 40)
  | .rephase => (4, 20)
  | .answer => (1, 4)
  | .answerMax => (3, 12)
  | .slots => (2, 16)
  | .silence => (3, 12)
  | .gather => (2, 6)
  | .idle => (0, 600)
  | .calDrift => (2, 20)
  | .holdMax => (1, 30)
  | .breakMax => (1, 30)
  | .copies => (0, 3)
  | .progress => (10, 500)
  | _ => (0, 0)

theorem inRange_iff {n : Nat} (hro : k ∉ ([.temp, .gain, .version] : List Key)) (hb : k ≠ .bureau) :
    k.inRange n = true ↔ (k = .progress ∧ n = 0) ∨ (k.limits.1 ≤ n ∧ n ≤ k.limits.2) := by
  cases k <;> first | exact absurd rfl hb | exact absurd (by decide) hro | simp [Key.inRange, Key.limits]

/-- A formed word fails stage 4 where its value lies outside its key's limits. -/
theorem setInRange_false (hform : k.Formed v) :
    setInRange k v = false ↔
      k ∉ ([.temp, .gain, .version] : List Key) ∧ k ≠ .bureau ∧ ¬ (k = .progress ∧ (number? v).getD 0 = 0) ∧
        ¬ (k.limits.1 ≤ (number? v).getD 0 ∧ (number? v).getD 0 ≤ k.limits.2) := by
  by_cases hro : k ∈ ([.temp, .gain, .version] : List Key)
  · simp [setInRange, Key.mem_readOnly.mp hro, hro]
  · by_cases hb : k = .bureau
    · simp [setInRange, hb]
    · have hrange := inRange_iff (n := digitsValue v) hro hb
      rw [Bool.eq_false_iff, ne_eq, setInRange, not_isReadOnly hro, Bool.false_or, Bool.or_eq_true, beq_iff_eq, hrange,
        value_of_formed hform hro hb]
      simp only [hro, hb, false_or, not_or, not_false_eq_true, true_and, ne_eq]

/-- The number given for a key, otherwise the stored one. -/
def givenOr (kvs : List (Key × Text)) (k : Key) (stored : Nat) : Nat :=
  ((kvs.find? fun p => p.1 == k).map fun p => (number? p.2).getD 0).getD stored

theorem givenOr_eq {stored : Nat} (hform : ∀ p ∈ kvs, p.1.Formed p.2)
    (hro : k ∉ ([.temp, .gain, .version] : List Key)) (hb : k ≠ .bureau) :
    givenOr kvs k stored = ((kvs.find? fun p => p.1 == k).map fun p => digitsValue p.2).getD stored := by
  unfold givenOr
  cases hf : kvs.find? fun p => p.1 == k with
  | none => rfl
  | some p =>
    have hpk : p.1 = k := by simpa using List.find?_some hf
    have hp := hform p (List.mem_of_find?_eq_some hf)
    exact value_of_formed hp (hpk ▸ hro) (hpk ▸ hb)

/-- The numbers that stages 5 and 6 compare. -/
theorem putAll_numbers (hnd : (kvs.map (·.1)).Nodup) (hform : ∀ p ∈ kvs, p.1.Formed p.2) (s : State) :
    (putAll kvs s.settings).guarded.white = givenOr kvs .white s.settings.guarded.white ∧
      (putAll kvs s.settings).guarded.black = givenOr kvs .black s.settings.guarded.black ∧
      (putAll kvs s.settings).guarded.slots = givenOr kvs .slots s.settings.guarded.slots := by
  refine ⟨?_, ?_, ?_⟩
  · rw [givenOr_eq hform (by decide) (by decide)]
    exact KeyValue.num.inj (keyValue_putAll_num (s := s) (k := .white) hnd rfl (by decide) rfl)
  · rw [givenOr_eq hform (by decide) (by decide)]
    exact KeyValue.num.inj (keyValue_putAll_num (s := s) (k := .black) hnd rfl (by decide) rfl)
  · rw [givenOr_eq hform (by decide) (by decide)]
    exact KeyValue.num.inj (keyValue_putAll_num (s := s) (k := .slots) hnd rfl (by decide) rfl)

/-- The value of a formed word lies outside the limits of its key (stage 4). -/
def OutsideLimits (p : Key × Text) : Prop :=
  p.1 ∉ ([.temp, .gain, .version] : List Key) ∧ p.1 ≠ .bureau ∧ ¬ (p.1 = .progress ∧ (number? p.2).getD 0 = 0) ∧
    ¬ (p.1.limits.1 ≤ (number? p.2).getD 0 ∧ (number? p.2).getD 0 ≤ p.1.limits.2)

open Classical in
/-- Stages 3 to 7 in their order, said of the words as they stand. -/
theorem setRefusal_eq (hform : ∀ p ∈ kvs, p.1.Formed p.2) (s : State) :
    setRefusal kvs s =
      if ¬ (kvs.map (·.1)).Nodup then some .duplicate
      else if ∃ p ∈ kvs, OutsideLimits p then some .range
      else if |(givenOr kvs .white s.settings.guarded.white : Int) - givenOr kvs .black s.settings.guarded.black| < 400
        then some .range
      else if ∃ n ∈ List.range' 1 16,
          givenOr kvs .slots s.settings.guarded.slots < n ∧ (s.station n).name.isSome = true then some .range
      else if (∃ p ∈ kvs, p.1 ∈ ([.white, .black, .phase, .rephase, .answer, .answerMax, .slots, .silence, .gather] :
          List Key)) ∧ ∃ j ∈ s.queue.jobs, j.state = .active then some .busy
      else none := by
  have hrange : (!kvs.all fun p => setInRange p.1 p.2) = true ↔ ∃ p ∈ kvs, OutsideLimits p := by
    rw [Bool.not_eq_true', List.all_eq_false]
    refine exists_congr fun p => and_congr_right fun hp => ?_
    rw [Bool.not_eq_true]
    exact setInRange_false (hform p hp)
  have hbusy : (kvs.any (fun p => p.1.isGuarded) && s.anyActive) = true ↔
      (∃ p ∈ kvs, p.1 ∈ ([.white, .black, .phase, .rephase, .answer, .answerMax, .slots, .silence, .gather] :
        List Key)) ∧ ∃ j ∈ s.queue.jobs, j.state = .active := by
    simp only [Bool.and_eq_true, List.any_eq_true, anyActive_iff, Key.mem_guarded]
  by_cases hnd : (kvs.map (·.1)).Nodup
  · obtain ⟨hwhite, hblack, hslots⟩ := putAll_numbers hnd hform s
    have hapart : (putAll kvs s.settings).guarded.white < (putAll kvs s.settings).guarded.black + 400 ∧
        (putAll kvs s.settings).guarded.black < (putAll kvs s.settings).guarded.white + 400 ↔
        |(givenOr kvs .white s.settings.guarded.white : Int) - givenOr kvs .black s.settings.guarded.black| < 400 := by
      rw [hwhite, hblack, abs_lt]
      omega
    have hstations := lt_highestDefined (s := s) (a := (putAll kvs s.settings).guarded.slots)
    rw [hslots] at hstations
    simp only [setRefusal, hnd, not_true_eq_false, if_false, hslots]
    refine if_congr hrange rfl (if_congr hapart rfl (if_congr hstations rfl (if_congr hbusy rfl rfl)))
  · simp only [setRefusal, hnd, not_false_eq_true, if_true]

theorem nodup_of_setRefusal (h : setRefusal kvs s = none) : (kvs.map (·.1)).Nodup := by
  by_contra hnd
  simp [setRefusal, hnd] at h

theorem heldAs_eq {p : Key × Text} (hform : p.1.Formed p.2) (hro : p.1 ∉ ([.temp, .gain, .version] : List Key)) :
    heldAs p = if p.1 = .bureau then .word p.2 else .num ((number? p.2).getD 0) := by
  unfold heldAs
  split_ifs with hb
  · rfl
  · rw [value_of_formed hform hro hb]

/-- A SET that passes every stage writes its keys and echoes them as they are held. -/
theorem requestSet_taken (hne : kvs ≠ []) (hform : ∀ p ∈ kvs, p.1.Formed p.2) (h : setRefusal kvs s = none) :
    requestSet (setWords kvs) s =
      (s.onSettings (putAll kvs),
        .setKeys ((kvs.filter fun p => decide (p.1 ∉ ([.temp, .gain, .version] : List Key))).map fun p =>
          (p.1, if p.1 = .bureau then .word p.2 else .num ((number? p.2).getD 0)))) := by
  have hwritable : (kvs.filter fun p => !p.1.isReadOnly) =
      kvs.filter fun p => decide (p.1 ∉ ([.temp, .gain, .version] : List Key)) :=
    List.filter_congr fun p _ => by simp only [Key.mem_readOnly, Bool.not_eq_true, Bool.decide_eq_false]
  rw [requestSet_keys hne hform, h]
  dsimp only
  rw [hwritable]
  refine congrArg _ (congrArg Reply.setKeys (List.map_congr_left fun p hp => ?_))
  obtain ⟨hmem, hro⟩ := List.mem_filter.mp hp
  have hro : p.1 ∉ ([.temp, .gain, .version] : List Key) := of_decide_eq_true hro
  rw [keyValue_putAll_mem (nodup_of_setRefusal h) hmem (not_isReadOnly hro), heldAs_eq (hform p hmem) hro]

theorem requestGet_keys {ks : List Key} (hne : ks ≠ []) (hnd : ks.Nodup) :
    requestGet (ks.map Key.text) s = (s, .getKeys (ks.map fun k => (k, s.keyValue k))) := by
  have hform : getIllFormed (ks.map Key.text) = false := by
    simp [getIllFormed, Key.text_no_equals, hnd.map Key.text_injective]
  have hkeys : allSome ((ks.map Key.text).map key?) = some ks :=
    allSome_read_back fun k _ => key?_text k
  have hne' : (ks.map Key.text).isEmpty = false := by simpa using hne
  simp only [requestGet, hne', hform, hkeys]
  rfl

theorem requestGet_illFormed {args : List Text} (h : (∃ w ∈ args, '=' ∈ w) ∨ ¬ args.Nodup) :
    requestGet args s = (s, .no .form) := by
  have hne : args ≠ [] := by
    rintro rfl
    simp at h
  have hform : getIllFormed args = true := by simpa [getIllFormed] using h
  simp [requestGet, hne, hform]

theorem requestGet_unknown {args : List Text} (heq : ∀ w ∈ args, '=' ∉ w) (hnd : args.Nodup)
    (h : ∃ w ∈ args, ∀ k : Key, k.text ≠ w) : requestGet args s = (s, .no .unknown) := by
  have hkeys : allSome (args.map key?) = none := by
    obtain ⟨w, hw, hnone⟩ := h
    exact allSome_map_none ⟨w, hw, key?_none hnone⟩
  have hne : args ≠ [] := by
    obtain ⟨w, hw, _⟩ := h
    exact List.ne_nil_of_mem hw
  have hform : getIllFormed args = false := by simpa [getIllFormed, hnd] using heq
  simp [requestGet, hne, hform, hkeys]

/-- Settles O16: each stage is an equation of the owner, and the store is read back key by key. -/
theorem settingsWrittenAndRead : Obligations.SettingsWrittenAndRead := by
  unfold Obligations.SettingsWrittenAndRead
  dsimp only
  refine ⟨⟨?noWord, ?noEquals, ?notFormed, ?unknownKey⟩, ?keys, ?getAll, ?getKeys, ?getForm, ?getUnknown,
    fun s => ⟨rfl, rfl, rfl⟩, fun l => rfl⟩
  case noWord => exact fun s h => exec_takes (.setKeys []) h s _ rfl
  case noEquals =>
    intro args s h hw
    obtain ⟨w, hw, heq⟩ := hw
    exact exec_takes (.setKeys args) h s _ (requestSet_illFormed ⟨w, hw, by simp [setWord?, keyValue?_none heq]⟩)
  case notFormed =>
    intro kvs s h hkeys hbad
    refine exec_takes (.setKeys _) h s _ (requestSet_illFormed ?_)
    obtain ⟨p, hp, hbad⟩ := hbad
    refine ⟨_, List.mem_map_of_mem hp, ?_⟩
    obtain hk | hv | ⟨k, hk, hform⟩ := hbad
    · exact setWord?_empty (hkeys p hp) (.inl hk)
    · exact setWord?_empty (hkeys p hp) (.inr hv)
    · rw [← hk]
      exact setWord?_not_formed hform
  case unknownKey =>
    intro kvs s h hform hunknown
    refine exec_takes (.setKeys _) h s _ (requestSet_unknown (fun p hp => ?_) hunknown)
    obtain ⟨heq, hk, hv, hformed⟩ := hform p hp
    by_cases hnone : ∀ k : Key, k.text ≠ p.1
    · exact setWord?_unknown heq hk hv hnone
    · obtain ⟨k, hkey⟩ := not_forall_not.mp hnone
      have hword := setWord?_formed (hformed k hkey)
      rwa [hkey] at hword
  case keys =>
    intro kvs s h hne hform
    refine ⟨fun c hc => ?refused, fun hc => ⟨putAll kvs s.settings, ?written, fun p hp hro => ?value, fun k hk => ?other⟩⟩
    case refused =>
      have hr : setRefusal kvs s = some c := (setRefusal_eq hform s).trans ((by congr! : _ = _).trans hc)
      exact exec_takes (.setKeys _) h s _ (requestSet_refused hne hform hr)
    all_goals
      have hr : setRefusal kvs s = none := (setRefusal_eq hform s).trans ((by congr! : _ = _).trans hc)
      have hnd := nodup_of_setRefusal hr
    case written =>
      exact exec_takes (.setKeys _) h (s.onSettings (putAll kvs)) _
        (requestSet_taken (s := s.onLink emptyBuffer) hne hform hr)
    case value =>
      exact (keyValue_putAll_mem (s := s) hnd hp (not_isReadOnly hro)).trans (heldAs_eq (hform p hp) hro)
    case other =>
      obtain hro | hother := hk
      · exact keyValue_readOnly (Key.mem_readOnly.mp hro) (putAll kvs)
      · exact keyValue_putAll_other (s := s) hother
  case getAll => exact fun s h => exec_takes (.getKeys []) h s _ rfl
  case getKeys => exact fun ks s h hne hnd => exec_takes (.getKeys _) h s _ (requestGet_keys hne hnd)
  case getForm => exact fun args s h hbad => exec_takes (.getKeys args) h s _ (requestGet_illFormed hbad)
  case getUnknown =>
    exact fun args s h heq hnd hunknown => exec_takes (.getKeys args) h s _ (requestGet_unknown heq hnd hunknown)

end Sys2Proof.Machine
end

section
/-! PROOFS. QUEUE (R1, R2): the form of its words, its checks in their order and the record made. -/

namespace Sys2Proof.Machine

variable {s : State} {args : List Text} {f : QueueForm} {kvs : List (Text × Text)}

/-! ### The values of a line (check 1 of R2) -/

/-- The words of a line are the keys of the table, each once, and the values of `f` are given by them. -/
structure QueueForm.ReadFrom (f : QueueForm) (kvs : List (Text × Text)) : Prop where
  keys : ∀ p ∈ kvs, p.1 ∈ queueKeys
  nodup : (kvs.map (·.1)).Nodup
  slug : (lookupKey "SLUG".toList kvs).bind (name? 10) = some f.slug
  priority : optionalValue (lookupKey "PRI".toList kvs) .routine priority? = some f.priority
  lines : (lookupKey "LINES".toList kvs).bind number? = some f.lines
  pitch : (lookupKey "PITCH".toList kvs).bind number? = some f.pitch
  speed : (lookupKey "SPEED".toList kvs).bind number? = some f.speed
  curve : optionalValue (lookupKey "CURVE".toList kvs) 0 number? = some f.curve
  stations : (lookupKey "STN".toList kvs).bind numbers? = some f.stations
  time : optionalValue (lookupKey "AT".toList kvs) none (fun v => (time? v).map some) = some f.time

theorem queueForm?_eq_some_iff :
    queueForm? args = some f ↔ ∃ kvs, allSome (args.map keyValue?) = some kvs ∧ f.ReadFrom kvs := by
  constructor
  · intro h
    simp only [queueForm?, Option.bind_eq_bind, Option.bind_eq_some_iff] at h
    obtain ⟨kvs, hkvs, h⟩ := h
    split_ifs at h with hkeys
    obtain ⟨hk, hnd⟩ := Bool.and_eq_true_iff.mp hkeys
    simp only [Option.bind_eq_some_iff] at h
    obtain ⟨slug, hslug, pri, hpri, lines, hlines, pitch, hpitch, speed, hspeed, curve, hcurve, stns, hstns, time,
      htime, h⟩ := h
    cases h
    refine ⟨kvs, hkvs, ?_, of_decide_eq_true hnd, ?_, hpri, ?_, ?_, ?_, hcurve, ?_, htime⟩
    · simpa using hk
    all_goals exact Option.bind_eq_some_iff.mpr ‹_›
  · rintro ⟨kvs, hkvs, hf⟩
    have hkeys : (kvs.all (fun p => queueKeys.contains p.1) && decide (kvs.map (·.1)).Nodup) = true := by
      simpa [hf.nodup] using hf.keys
    simp only [queueForm?, hkvs, Option.bind_eq_bind, Option.bind_some]
    rw [if_pos hkeys, hf.slug, hf.priority, hf.lines, hf.pitch, hf.speed, hf.curve, hf.stations, hf.time]
    rfl

/-! ### The forms of the values -/

theorem isNumber_of_number? {w : Text} {n : Nat} (h : number? w = some n) : isNumber w := by
  by_contra hn
  rw [number?_of_not_isNumber hn] at h
  cases h

theorem isNumberList_of_numbers? {w : Text} {ns : List Nat} (h : numbers? w = some ns) : isNumberList w := by
  by_contra hn
  rw [numbers?_of_not_isNumberList hn] at h
  cases h

theorem isTime_of_time? {w : Text} {c : Nat × Nat × Nat} (h : time? w = some c) : isTime w := by
  unfold time? at h
  split at h
  next a b x d e y g i =>
    split_ifs at h with hform
    simp only [List.all_cons, List.all_nil, Bool.and_true, Bool.and_eq_true, beq_iff_eq, isDigit_iff] at hform
    simpa [isTime, and_assoc, and_comm, and_left_comm] using hform
  next => cases h

theorem mem_of_priority? {w : Text} {x : Priority} (h : priority? w = some x) :
    w ∈ ["ROUTINE".toList, "URGENT".toList, "FLASH".toList] := by
  unfold priority? at h
  split_ifs at h with h1 h2 h3 <;> simp [*]

/-- A value in the form of its key (section 1.2). -/
def QueueValue (k v : Text) : Prop :=
  if k = "SLUG".toList then isName 10 v
  else if k = "PRI".toList then v ∈ ["ROUTINE".toList, "URGENT".toList, "FLASH".toList]
  else if k = "STN".toList then isNumberList v
  else if k = "AT".toList then isTime v
  else isNumber v

theorem lookupKey_of_mem {p : Text × Text} (hnd : (kvs.map (·.1)).Nodup) (hp : p ∈ kvs) :
    lookupKey p.1 kvs = some p.2 := by
  induction kvs with
  | nil => cases hp
  | cons q kvs ih =>
    obtain ⟨hq, hrest⟩ := List.nodup_cons.mp hnd
    obtain rfl | hp := List.mem_cons.mp hp
    · simp [lookupKey]
    · have hne : ¬ q.1 = p.1 := fun he => hq (List.mem_map.mpr ⟨p, hp, he.symm⟩)
      have hfound := ih hrest hp
      simpa [lookupKey, hne] using hfound

theorem lookupKey_none {k : Text} (h : ∀ p ∈ kvs, p.1 ≠ k) : lookupKey k kvs = none := by
  simpa [lookupKey] using h

theorem QueueForm.ReadFrom.value (h : f.ReadFrom kvs) {p : Text × Text} (hp : p ∈ kvs) : QueueValue p.1 p.2 := by
  have hlookup := lookupKey_of_mem h.nodup hp
  have hkey := h.keys p hp
  obtain ⟨k, v⟩ := p
  simp only [queueKeys, List.mem_cons, List.not_mem_nil, or_false] at hkey
  dsimp only at hlookup ⊢
  unfold QueueValue
  obtain rfl | rfl | rfl | rfl | rfl | rfl | rfl | rfl := hkey
  · have hv := h.slug
    rw [hlookup] at hv
    exact (name?_eq_some_iff.mp hv).1
  · have hv := h.priority
    rw [hlookup] at hv
    exact mem_of_priority? hv
  · have hv := h.lines
    rw [hlookup] at hv
    exact isNumber_of_number? hv
  · have hv := h.pitch
    rw [hlookup] at hv
    exact isNumber_of_number? hv
  · have hv := h.speed
    rw [hlookup] at hv
    exact isNumber_of_number? hv
  · have hv := h.curve
    rw [hlookup] at hv
    exact isNumber_of_number? hv
  · have hv := h.stations
    rw [hlookup] at hv
    exact isNumberList_of_numbers? hv
  · have hv := h.time
    rw [hlookup] at hv
    obtain ⟨c, hc, _⟩ := Option.map_eq_some_iff.mp hv
    exact isTime_of_time? hc

/-- No key that must be given is missing. -/
theorem QueueForm.ReadFrom.given (h : f.ReadFrom kvs) {k : Text}
    (hk : k ∈ ["SLUG".toList, "LINES".toList, "PITCH".toList, "SPEED".toList, "STN".toList]) : ∃ p ∈ kvs, p.1 = k := by
  by_contra hnone
  have hmissing : lookupKey k kvs = none := lookupKey_none fun p hp he => hnone ⟨p, hp, he⟩
  simp only [List.mem_cons, List.not_mem_nil, or_false] at hk
  obtain rfl | rfl | rfl | rfl | rfl := hk
  · have hv := h.slug; rw [hmissing] at hv; cases hv
  · have hv := h.lines; rw [hmissing] at hv; cases hv
  · have hv := h.pitch; rw [hmissing] at hv; cases hv
  · have hv := h.speed; rw [hmissing] at hv; cases hv
  · have hv := h.stations; rw [hmissing] at hv; cases hv

/-- A line of key=value words is read from those words. -/
theorem queueForm?_words (hkeys : ∀ p ∈ kvs, '=' ∉ p.1) :
    queueForm? (kvs.map fun p => p.1 ++ '=' :: p.2) = some f ↔ f.ReadFrom kvs := by
  have hall : allSome ((kvs.map fun p => p.1 ++ '=' :: p.2).map keyValue?) = some kvs :=
    allSome_read_back fun p hp => keyValue?_append (hkeys p hp) p.2
  rw [queueForm?_eq_some_iff, hall]
  exact ⟨fun ⟨_, he, h⟩ => Option.some.inj he ▸ h, fun h => ⟨kvs, rfl, h⟩⟩

theorem queueForm?_none (hkeys : ∀ p ∈ kvs, '=' ∉ p.1)
    (hbad : (∃ p ∈ kvs, p.1 ∉ queueKeys) ∨ ¬ (kvs.map (·.1)).Nodup ∨
      (∃ k ∈ ["SLUG".toList, "LINES".toList, "PITCH".toList, "SPEED".toList, "STN".toList], ∀ p ∈ kvs, p.1 ≠ k) ∨
      ∃ p ∈ kvs, ¬ QueueValue p.1 p.2) : queueForm? (kvs.map fun p => p.1 ++ '=' :: p.2) = none := by
  refine Option.eq_none_iff_forall_ne_some.mpr fun f hf => ?_
  have h := (queueForm?_words hkeys).mp hf
  obtain ⟨p, hp, hk⟩ | hnd | ⟨k, hk, hmissing⟩ | ⟨p, hp, hv⟩ := hbad
  · exact hk (h.keys p hp)
  · exact hnd h.nodup
  · obtain ⟨p, hp, he⟩ := h.given hk
    exact hmissing p hp he
  · exact hv (h.value hp)

theorem queueForm?_no_equals (h : ∃ w ∈ args, '=' ∉ w) : queueForm? args = none := by
  obtain ⟨w, hw, heq⟩ := h
  simp [queueForm?, allSome_map_none ⟨w, hw, keyValue?_none heq⟩]

/-! ### The words in any order -/

theorem allSome_map_eq_some_iff {α β : Type} {g : α → Option β} {l : List α} {vs : List β} :
    allSome (l.map g) = some vs ↔ (∀ x ∈ l, (g x).isSome) ∧ l.filterMap g = vs := by
  induction l generalizing vs with
  | nil => simp [allSome]
  | cons x l ih =>
    cases hx : g x with
    | none => simp [allSome, hx]
    | some y =>
      cases hl : allSome (l.map g) with
      | none =>
        have hsome : ¬ ∀ x ∈ l, (g x).isSome := fun h => by
          have hnone := ih.mpr ⟨h, rfl⟩
          rw [hl] at hnone
          cases hnone
        simp [allSome, hx, hl, hsome]
      | some ys =>
        obtain ⟨hall, hys⟩ := ih.mp hl
        simpa [allSome, hx, hl, hys] using fun _ => hall

theorem lookupKey_perm {b : List (Text × Text)} (hnd : (kvs.map (·.1)).Nodup) (h : kvs.Perm b) (k : Text) :
    lookupKey k b = lookupKey k kvs := by
  by_cases hk : ∃ p ∈ kvs, p.1 = k
  · obtain ⟨p, hp, rfl⟩ := hk
    rw [lookupKey_of_mem hnd hp, lookupKey_of_mem ((h.map _).nodup_iff.mp hnd) (h.mem_iff.mp hp)]
  · have hnone : ∀ p ∈ kvs, p.1 ≠ k := fun p hp he => hk ⟨p, hp, he⟩
    rw [lookupKey_none hnone, lookupKey_none fun p hp => hnone p (h.mem_iff.mpr hp)]

theorem QueueForm.ReadFrom.perm {b : List (Text × Text)} (h : f.ReadFrom kvs) (hp : kvs.Perm b) : f.ReadFrom b := by
  have hlookup := lookupKey_perm h.nodup hp
  constructor
  · exact fun p hb => h.keys p (hp.mem_iff.mpr hb)
  · exact (hp.map _).nodup_iff.mp h.nodup
  all_goals rw [hlookup]
  · exact h.slug
  · exact h.priority
  · exact h.lines
  · exact h.pitch
  · exact h.speed
  · exact h.curve
  · exact h.stations
  · exact h.time

theorem queueForm?_perm_some {b : List Text} (hp : args.Perm b) (h : queueForm? args = some f) :
    queueForm? b = some f := by
  obtain ⟨kvs, hkvs, hf⟩ := queueForm?_eq_some_iff.mp h
  obtain ⟨hall, rfl⟩ := allSome_map_eq_some_iff.mp hkvs
  have hb : allSome (b.map keyValue?) = some (b.filterMap keyValue?) :=
    allSome_map_eq_some_iff.mpr ⟨fun w hw => hall w (hp.mem_iff.mpr hw), rfl⟩
  exact queueForm?_eq_some_iff.mpr ⟨_, hb, hf.perm (hp.filterMap keyValue?)⟩

theorem queueForm?_perm {b : List Text} (hp : args.Perm b) : queueForm? args = queueForm? b :=
  Option.ext fun _ => ⟨queueForm?_perm_some hp, queueForm?_perm_some hp.symm⟩

/-! ### A line that names every field in its form -/

/-- A number below 100 in two digits. -/
def twoDigits (n : Nat) : Text := [Char.ofNat (48 + n / 10), Char.ofNat (48 + n % 10)]

/-- The keys and values of a line that names every field, PRI, CURVE and AT as they may be left out. -/
def queueFields (slug : Text) (pri : Option Priority) (n pitch speed : Nat) (curve : Option Nat) (stns : List Nat)
    (time : Option (Nat × Nat × Nat)) : List (Text × Text) :=
  [("SLUG".toList, slug), ("LINES".toList, Nat.toDigits 10 n), ("PITCH".toList, Nat.toDigits 10 pitch),
      ("SPEED".toList, Nat.toDigits 10 speed), ("STN".toList, joinWith ',' (stns.map (Nat.toDigits 10)))] ++
    pri.toList.map (fun x => ("PRI".toList, x.text)) ++
    curve.toList.map (fun k => ("CURVE".toList, Nat.toDigits 10 k)) ++
    time.toList.map fun t => ("AT".toList, twoDigits t.1 ++ ':' :: twoDigits t.2.1 ++ ':' :: twoDigits t.2.2)

theorem isDigit_ofNat {d : Nat} (hd : d < 10) :
    isDigit (Char.ofNat (48 + d)) = true ∧ (Char.ofNat (48 + d)).toNat = 48 + d := by
  revert d
  decide

theorem digitsValue_twoDigits {n : Nat} (hn : n < 100) : digitsValue (twoDigits n) = n := by
  have hhigh := (isDigit_ofNat (d := n / 10) (by omega)).2
  have hlow := (isDigit_ofNat (d := n % 10) (by omega)).2
  simp only [digitsValue, twoDigits, List.foldl_cons, List.foldl_nil, hhigh, hlow]
  omega

theorem time?_twoDigits {t : Nat × Nat × Nat} (h1 : t.1 < 100) (h2 : t.2.1 < 100) (h3 : t.2.2 < 100) :
    time? (twoDigits t.1 ++ ':' :: twoDigits t.2.1 ++ ':' :: twoDigits t.2.2) = some t := by
  have hdigit : ∀ n < 100, isDigit (Char.ofNat (48 + n / 10)) = true ∧ isDigit (Char.ofNat (48 + n % 10)) = true :=
    fun n hn => ⟨(isDigit_ofNat (by omega)).1, (isDigit_ofNat (by omega)).1⟩
  have hvalues := And.intro (digitsValue_twoDigits h1) (And.intro (digitsValue_twoDigits h2) (digitsValue_twoDigits h3))
  simp only [twoDigits] at hvalues
  simp [time?, twoDigits, hdigit _ h1, hdigit _ h2, hdigit _ h3, hvalues]

theorem priority?_text (x : Priority) : priority? x.text = some x := by cases x <;> rfl

theorem queueForm?_fields {slug : Text} {pri : Option Priority} {n pitch speed : Nat} {curve : Option Nat}
    {stns : List Nat} {time : Option (Nat × Nat × Nat)} (hslug : isName 10 slug) (hstns : stns ≠ [])
    (htime : ∀ t ∈ time, t.1 < 100 ∧ t.2.1 < 100 ∧ t.2.2 < 100) :
    queueForm? ((queueFields slug pri n pitch speed curve stns time).map fun p => p.1 ++ '=' :: p.2) =
      some ⟨slug, pri.getD .routine, n, pitch, speed, curve.getD 0, stns, time⟩ := by
  have hname : name? 10 slug = some slug := name?_eq_some_iff.mpr ⟨hslug, rfl⟩
  have hat : ∀ t ∈ time, time? (twoDigits t.1 ++ ':' :: twoDigits t.2.1 ++ ':' :: twoDigits t.2.2) = some t :=
    fun t ht => time?_twoDigits (htime t ht).1 (htime t ht).2.1 (htime t ht).2.2
  have hmap : (queueFields slug pri n pitch speed curve stns time).map (·.1) =
      ["SLUG".toList, "LINES".toList, "PITCH".toList, "SPEED".toList, "STN".toList] ++
        (if pri.isSome then ["PRI".toList] else []) ++ (if curve.isSome then ["CURVE".toList] else []) ++
        (if time.isSome then ["AT".toList] else []) := by
    cases pri <;> cases curve <;> cases time <;> rfl
  have hnames : ∀ a b c : Bool,
      let keys := ["SLUG".toList, "LINES".toList, "PITCH".toList, "SPEED".toList, "STN".toList] ++
        (if a then ["PRI".toList] else []) ++ (if b then ["CURVE".toList] else []) ++ (if c then ["AT".toList] else [])
      (∀ k ∈ keys, k ∈ queueKeys) ∧ keys.Nodup ∧ ∀ k ∈ keys, '=' ∉ k := by decide
  obtain ⟨hkeys, hnd, heq⟩ := hnames pri.isSome curve.isSome time.isSome
  rw [← hmap] at hkeys hnd heq
  refine (queueForm?_words fun p hp => heq p.1 (List.mem_map_of_mem hp)).mpr ?_
  constructor
  case keys => exact fun p hp => hkeys p.1 (List.mem_map_of_mem hp)
  case nodup => exact hnd
  case slug => exact hname
  case lines => exact number?_digits n
  case pitch => exact number?_digits pitch
  case speed => exact number?_digits speed
  case stations => exact numbers?_join hstns
  case priority =>
    cases pri with
    | none => cases curve <;> cases time <;> rfl
    | some x => exact priority?_text x
  case curve =>
    cases curve with
    | none => cases pri <;> cases time <;> rfl
    | some k => cases pri <;> exact number?_digits k
  case time =>
    cases time with
    | none => cases pri <;> cases curve <;> rfl
    | some t =>
      have h := congrArg (Option.map some) (hat t rfl)
      cases pri <;> cases curve <;> exact h

/-! ### The checks of QUEUE in their order -/

theorem requestQueue_illFormed (h : queueForm? args = none) : requestQueue args s = (s, .no .form) := by
  simp [requestQueue, h]

theorem pitch?_eq_none {n : Nat} : pitch? n = none ↔ n ∉ [100, 125, 150] := by
  simp only [pitch?]
  split_ifs <;> simp [*]

theorem speed?_eq_none {n : Nat} : speed? n = none ↔ n ∉ [60, 90, 120] := by
  simp only [speed?]
  split_ifs <;> simp [*]

theorem pitch?_lpi (p : Pitch) : pitch? p.lpi = some p := by cases p <;> rfl

theorem speed?_rpm (v : Speed) : speed? v.rpm = some v := by cases v <;> rfl

theorem queueRange_eq_true : queueRange f = true ↔
    f.curve ≤ 3 ∧ 50 ≤ f.lines ∧ f.lines ≤ 11 * f.pitch ∧ (∀ k ∈ f.stations, 1 ≤ k ∧ k ≤ 16) ∧
      ∀ t ∈ f.time, t.1 ≤ 23 ∧ t.2.1 ≤ 59 ∧ t.2.2 ≤ 59 := by
  obtain ⟨slug, pri, lines, pitch, speed, curve, stations, time⟩ := f
  cases time <;> simp [queueRange, stationOk, timeOk, and_assoc]

theorem requestQueue_range (h : queueForm? args = some f)
    (hr : pitch? f.pitch = none ∨ speed? f.speed = none ∨ queueRange f = false) :
    requestQueue args s = (s, .no .range) := by
  unfold requestQueue
  rw [h]
  dsimp only
  split
  next hp hv =>
    rw [if_neg]
    simpa [hp, hv] using hr
  next => rfl

theorem requestQueue_refused {p : Pitch} {v : Speed} {c : Code} (h : queueForm? args = some f)
    (hp : pitch? f.pitch = some p) (hv : speed? f.speed = some v) (hr : queueRange f = true)
    (hc : queueRefusal f s = some c) : requestQueue args s = (s, .no c) := by
  simp [requestQueue, h, hp, hv, hr, hc]

theorem requestQueue_made {p : Pitch} {v : Speed} (h : queueForm? args = some f) (hp : pitch? f.pitch = some p)
    (hv : speed? f.speed = some v) (hr : queueRange f = true) (hc : queueRefusal f s = none) :
    requestQueue args s =
      (enqueue (newJob s.drawnNumber f p v s.backup.clock) s, .queue s.drawnNumber) := by
  simp [requestQueue, h, hp, hv, hr, hc]

/-- Checks 3 to 7 of R2 in their order. -/
theorem queueRefusal_eq (f : QueueForm) (s : State) :
    queueRefusal f s =
      if ∃ k ∈ f.stations, (s.station k).name = none then some .range
      else if ¬ f.stations.Nodup then some .duplicate
      else if f.time.isSome ∧ s.backup.clock = none then some .state
      else if ∃ j ∈ s.queue.jobs, j.slug = f.slug then some .duplicate
      else if 8 ≤ s.queue.jobs.length then some .full
      else none := by
  have hdefined : (!f.stations.all s.defined) = true ↔ ∃ k ∈ f.stations, (s.station k).name = none := by
    simp [State.defined]
  have hclock : (f.time.isSome && s.backup.clock.isNone) = true ↔ f.time.isSome ∧ s.backup.clock = none := by simp
  have hslug : s.queue.jobs.any (fun j => j.slug == f.slug) = true ↔ ∃ j ∈ s.queue.jobs, j.slug = f.slug := by simp
  exact if_congr hdefined rfl (if_congr Iff.rfl rfl (if_congr hclock rfl (if_congr hslug rfl rfl)))

/-- What a line leaves after its checks: the refusal of the first that fails, otherwise `t` with its reply. -/
def State.checked (s : State) (refusal : Option Code) (t : State) (w : Reply) : State :=
  match refusal with
  | some c => s.answered (.no c)
  | none => t.answered w

@[simp] theorem checked_none (s t : State) (w : Reply) : s.checked none t w = t.answered w := rfl

@[simp] theorem checked_some (s t : State) (w : Reply) (c : Code) : s.checked (some c) t w = s.answered (.no c) := rfl

theorem checked_ite (s t : State) (w : Reply) (c : Code) (o : Option Code) (a : Prop) [Decidable a] :
    s.checked (if a then some c else o) t w = if a then s.answered (.no c) else s.checked o t w := by
  split_ifs <;> rfl

theorem exec_queue_checked {p : Pitch} {v : Speed} (ht : s.takes) (h : queueForm? args = some f)
    (hp : pitch? f.pitch = some p) (hv : speed? f.speed = some v) (hr : queueRange f = true) :
    exec (.queue args) s =
      .next
        (s.checked (queueRefusal f s) (enqueue (newJob s.drawnNumber f p v s.backup.clock) s) (.queue s.drawnNumber)) := by
  cases hc : queueRefusal f s with
  | some c =>
    exact exec_takes (.queue args) ht s _ (requestQueue_refused (s := s.onLink emptyBuffer) h hp hv hr hc)
  | none =>
    have htake := requestQueue_made (s := s.onLink emptyBuffer) h hp hv hr hc
    rw [drawnNumber_onLink] at htake
    exact exec_takes (.queue args) ht (enqueue _ s) _ htake

theorem ascending_eq (ns : List Nat) : ascending ns = (List.range' 1 16).filter fun k => decide (k ∈ ns) := by
  simp [ascending, stationNumbers]

/-- Settles O18: the line's words are read back as its fields, and the checks follow in their order. -/
theorem jobQueued : Obligations.JobQueued := by
  unfold Obligations.JobQueued
  dsimp only
  have hwords : ∀ (slug : Text) (pri : Option Priority) (n pitch speed : Nat) (curve : Option Nat) (stns : List Nat)
      (time : Option (Nat × Nat × Nat)),
      ["SLUG=".toList ++ slug, "LINES=".toList ++ Nat.toDigits 10 n, "PITCH=".toList ++ Nat.toDigits 10 pitch,
          "SPEED=".toList ++ Nat.toDigits 10 speed, "STN=".toList ++ joinWith ',' (stns.map (Nat.toDigits 10))] ++
        pri.toList.map (fun x => "PRI=".toList ++ x.text) ++
        curve.toList.map (fun k => "CURVE=".toList ++ Nat.toDigits 10 k) ++
        time.toList.map (fun t => "AT=".toList ++ (twoDigits t.1 ++ ':' :: twoDigits t.2.1 ++ ':' :: twoDigits t.2.2)) =
      (queueFields slug pri n pitch speed curve stns time).map fun p => p.1 ++ '=' :: p.2 := by
    intro slug pri n pitch speed curve stns time
    cases pri <;> cases curve <;> cases time <;> rfl
  refine ⟨⟨?noEquals, ?notFormed⟩, ?range, ?made, ?anyOrder⟩
  case noEquals =>
    exact fun args s h hw => exec_takes (.queue args) h s _ (requestQueue_illFormed (queueForm?_no_equals hw))
  case notFormed =>
    exact fun kvs s h hkeys hbad => exec_takes (.queue _) h s _ (requestQueue_illFormed (queueForm?_none hkeys hbad))
  case range =>
    intro slug pri n pitch speed curve stns time s h hslug hstns htime hbad
    have hform := queueForm?_fields (pri := pri) (n := n) (pitch := pitch) (speed := speed) (curve := curve) hslug hstns htime
    rw [← hwords] at hform
    refine exec_takes (.queue _) h s _ (requestQueue_range hform ?_)
    rw [pitch?_eq_none, speed?_eq_none, Bool.eq_false_iff, ne_eq, queueRange_eq_true]
    obtain hp | hv | hc | hn | hn | ⟨k, hk, hr⟩ | ⟨t, ht, hr⟩ := hbad
    · exact .inl hp
    · exact .inr (.inl hv)
    · exact .inr (.inr fun ⟨hcurve, _⟩ => by dsimp only at hcurve; omega)
    · exact .inr (.inr fun ⟨_, hlines, _⟩ => by dsimp only at hlines; omega)
    · exact .inr (.inr fun ⟨_, _, hlines, _⟩ => by dsimp only at hlines; omega)
    · exact .inr (.inr fun ⟨_, _, _, hstations, _⟩ => by have := hstations k hk; omega)
    · exact .inr (.inr fun ⟨_, _, _, _, hat⟩ => by have := hat t ht; omega)
  case made =>
    intro slug pri n p v curve stns time s h hslug hstns hcurve hleast hmost hstations htime
    have hform := queueForm?_fields (pri := pri) (n := n) (pitch := p.lpi) (speed := v.rpm) (curve := curve) hslug hstns
      fun t ht => ⟨by have := htime t ht; omega, by have := htime t ht; omega, by have := htime t ht; omega⟩
    rw [← hwords] at hform
    refine (exec_queue_checked h hform (pitch?_lpi p) (speed?_rpm v) ?_).trans (congrArg _ ?_)
    · exact queueRange_eq_true.mpr ⟨hcurve, hleast, hmost, hstations, htime⟩
    · simp only [queueRefusal_eq, checked_ite, checked_none, newJob, ascending_eq]
      rfl
  case anyOrder =>
    intro a b s h hp
    have hsame : requestQueue a (s.onLink emptyBuffer) = requestQueue b (s.onLink emptyBuffer) := by
      unfold requestQueue
      rw [queueForm?_perm hp]
    have hexec : ∀ r, exec r.toInstr s = .next (pump (takeRequest r (s.onLink emptyBuffer))) := fun r => by
      rw [exec_request, live_on _ h.1, deliver_takes r h]
    refine (hexec (.queue a)).trans (Eq.trans ?_ (hexec (.queue b)).symm)
    simp only [takeRequest, ownerTakes, hsame]

end Sys2Proof.Machine
end

section
/-! PROOFS. MOUNT and START (R9, R12): the checks on a job number, the print bound, and a job RELEASED while the drum
and the lamp get ready. -/

namespace Sys2Proof.Machine

variable {s t : State} {args : List Text} {w : Text} {n : Nat} {j k : Job}

/-! ### The checks on a job number (R9) -/

theorem jobArg_of_jobNumber {c : Code} (h : jobNumber args = .error c) : jobArg args s = .error c := by
  simp [jobArg, h]

theorem jobNumber_form (h : args.length = 1 → ∀ w ∈ args, ¬ isNumber w) : jobNumber args = .error .form := by
  match args with
  | [] => rfl
  | [w] => simp [jobNumber, number?_of_not_isNumber (h rfl w List.mem_cons_self)]
  | _ :: _ :: _ => rfl

theorem jobNumber_range (hw : number? w = some n) (hn : ¬ (1 ≤ n ∧ n ≤ 999)) : jobNumber [w] = .error .range := by
  simp only [jobNumber, hw, if_neg hn]

theorem jobArg_found (hw : number? w = some n) (h1 : 1 ≤ n) (h999 : n ≤ 999) (hj : s.findJob n = some j) :
    jobArg [w] s = .ok j := by
  simp [jobArg, jobNumber_ok hw h1 h999, hj]

theorem jobArg_unknown (hw : number? w = some n) (h1 : 1 ≤ n) (h999 : n ≤ 999) (hj : ∀ j ∈ s.queue.jobs, j.number ≠ n) :
    jobArg [w] s = .error .unknown := by
  have hnone : s.findJob n = none := by simpa [State.findJob] using hj
  simp [jobArg, jobNumber_ok hw h1 h999, hnone]

theorem findJob_number (h : s.findJob n = some j) : j.number = n := by
  simpa using List.find?_some h

/-- The five rows that name a job refuse what its checks refuse. -/
theorem exec_job_refused {c : Code} (ht : s.takes) (h : jobArg args s = .error c) :
    exec (.mount args) s = .next (s.answered (.no c)) ∧ exec (.start args) s = .next (s.answered (.no c)) ∧
      exec (.hold args) s = .next (s.answered (.no c)) ∧ exec (.go args) s = .next (s.answered (.no c)) ∧
      exec (.kill args) s = .next (s.answered (.no c)) := by
  have he : jobArg args (s.onLink emptyBuffer) = .error c := h
  refine ⟨exec_takes (.mount args) ht s _ ?_, exec_takes (.start args) ht s _ ?_, exec_takes (.hold args) ht s _ ?_,
    exec_takes (.go args) ht s _ ?_, exec_takes (.kill args) ht s _ ?_⟩
  · simp [ownerTakes, requestMount, he]
  · simp [ownerTakes, requestStart, he]
  · simp [ownerTakes, requestHold, he]
  · simp [ownerTakes, requestGo, he]
  · simp [ownerTakes, requestKill, he]

/-! ### A job RELEASED while the drum and the lamp get ready (R15 to R19) -/

/-- The missing start conditions of a job while the drum approaches its lock and the lamp warms (R19). -/
def State.waitCauses (s : State) (j : Job) : List Cause :=
  [if s.drive.pendingStart then Cause.budget else .drum, .lamp] ++
    (if s.cal.state = .fresh then [] else [.cal]) ++
    (if s.sender.circ = .free then [] else [.circuit]) ++
    (if 1 < j.passNo ∨ s.receipts.log.length < 16 ∨ ∃ r ∈ s.receipts.log, r.reclaimable = true then [] else [.log])

/-- The drum approaches its lock and the lamp warms. -/
structure State.GettingReady (s : State) : Prop where
  lamp : s.drive.lamp = .warming
  drum : s.drive.drum = .spinningUp ∨ s.drive.drum = .slewing ∨ s.drive.drum = .locking

theorem State.GettingReady.approaching (h : s.GettingReady) : s.drive.drum.approaching = true := by
  obtain hd | hd | hd := h.drum <;> rw [hd] <;> rfl

theorem State.GettingReady.not_locked (h : s.GettingReady) : s.drive.drum ≠ .locked := by
  obtain hd | hd | hd := h.drum <;> rw [hd] <;> decide

theorem missingCauses_gettingReady (h : s.GettingReady) (j : Job) : s.missingCauses j = s.waitCauses j := by
  have hlock : s.lockedAtSpeed j.speed = false := by simp [State.lockedAtSpeed, h.not_locked]
  have hrec : s.recordAvailable j = true ↔
      1 < j.passNo ∨ s.receipts.log.length < 16 ∨ ∃ r ∈ s.receipts.log, r.reclaimable = true := recordAvailable_iff j
  have hlamp : (s.drive.lamp == .ready) = false := by rw [h.lamp]; rfl
  simp only [State.missingCauses, State.waitCauses, hlock, hlamp, hrec, beq_iff_eq, Bool.false_eq_true, if_false]
  cases s.drive.pendingStart <;> rfl

/-- The drive has nothing to do for a want at a speed: the lamp is lit, and the drum approaches its lock or is LOCKED
at that speed (R35, R45). -/
def State.Serving (s : State) (v : Speed) : Prop :=
  s.drive.lamp ≠ .off ∧ (s.drive.drum.approaching = true ∨ (s.drive.drum = .locked ∧ s.drive.lockedAt = some v))

theorem State.GettingReady.serving (h : s.GettingReady) (v : Speed) : s.Serving v :=
  ⟨by rw [h.lamp]; decide, .inl h.approaching⟩

/-- The entry to RELEASED with its wants raised, which change nothing at a drive that serves them already. -/
theorem release_serving (h : s.Serving j.speed) (why : ReleaseCause) :
    release why j s =
      { s with
        link := s.link.posted [.release j.number why]
        queue :=
          { s.queue with
            missing := []
            jobs := s.queue.jobs.map fun k =>
              if k.number = j.number then { k with state := .released, pendingTrigger := false, calTried := false }
              else k }
        drive := { s.drive with queueWant := some j.speed, idleTimer := none } } := by
  unfold release raiseQueueWant
  refine (serve_kept (by exact h.1) (by exact h.2)).trans ?_
  rw [post_eq]
  rfl

theorem startTest_waits {causes : List Cause} (hc : s.missingCauses j = causes) (hne : causes ≠ [])
    (hm : s.queue.missing = []) :
    startTest j s =
      { s with
        link := s.link.posted [.wait j.number causes]
        queue := { s.queue with missing := causes } } := by
  unfold startTest
  rw [hc, hm, if_neg hne, if_neg hne, post_eq]
  rfl

/-- A job RELEASED while the drum and the lamp get ready waits for them: `*RELEASE`, then `*WAIT`. -/
theorem settle_release (h : s.GettingReady) (hr : s.releasedJob = none) (hk : s.findJob j.number = some k)
    (why : ReleaseCause) :
    settle (release why j s) =
      { s with
        link := s.link.posted [.release j.number why, .wait j.number (s.waitCauses k)]
        queue :=
          { s.queue with
            missing := s.waitCauses k
            jobs := s.queue.jobs.map fun k =>
              if k.number = j.number then { k with state := .released, pendingTrigger := false, calTried := false }
              else k }
        drive := { s.drive with queueWant := some j.speed, idleTimer := none } } := by
  have hready : (release why j s).GettingReady := by
    rw [release_serving (h.serving _)]
    exact ⟨h.lamp, h.drum⟩
  have hreleased : (release why j s).releasedJob =
      some { k with state := .released, pendingTrigger := false, calTried := false } := by
    have hupd := releasedJob_updJob (s := s) j.number
      (g := fun k => { k with state := .released, pendingTrigger := false, calTried := false }) (fun _ => rfl) hr hk
    rw [release_serving (h.serving _)]
    exact hupd
  have hcal : ∀ i : Job, autoCalibrate i (release why j s) = release why j s := fun i => by
    simp [autoCalibrate, State.asksCalibration, State.lockedAtSpeed, hready.not_locked]
  have hcauses := missingCauses_gettingReady hready
    { k with state := .released, pendingTrigger := false, calTried := false }
  rw [settle_some hreleased, hcal]
  rw [release_serving (h.serving _)] at hcauses ⊢
  have hnumber : k.number = j.number := findJob_number hk
  rw [startTest_waits hcauses (by simp [State.waitCauses]) rfl, posted_append]
  simp only [hnumber]
  rfl

/-! ### The print bound (R7, R9) -/

theorem coverOpen_eq_false : s.coverOpen = false ↔ s.queue.load ≠ .coverOpen := by
  simp [State.coverOpen]

theorem findJob_map {f : Job → Job} (hq : t.queue.jobs = s.queue.jobs.map f) (hf : ∀ k, (f k).number = k.number) :
    t.findJob n = (s.findJob n).map f := by
  unfold State.findJob
  rw [hq, List.find?_map]
  exact congrArg (Option.map f) (congrArg (fun p => s.queue.jobs.find? p) (funext fun k => by simp [hf]))

theorem releasedJob_map {f : Job → Job} (hq : t.queue.jobs = s.queue.jobs.map f) (hr : s.releasedJob = none)
    (hf : ∀ k, k.state ≠ .released → (f k).state ≠ .released) : t.releasedJob = none := by
  have hn : ∀ k ∈ s.queue.jobs, k.state ≠ .released := by simpa [State.releasedJob] using hr
  unfold State.releasedJob
  rw [hq]
  simpa using fun k hk => hf k (hn k hk)

/-- A job of the list as the binding of job `n` leaves it (R9). -/
def Job.rebound (n : Nat) (k : Job) : Job :=
  if k.number = n then { k with state := .mounted } else if k.state = .mounted then { k with state := .queued } else k

theorem Job.rebound_number (n : Nat) (k : Job) : (k.rebound n).number = k.number := by
  unfold Job.rebound
  split_ifs <;> rfl

theorem Job.rebound_not_released (n : Nat) {k : Job} (h : k.state ≠ .released) : (k.rebound n).state ≠ .released := by
  unfold Job.rebound
  split_ifs
  · exact nofun
  · exact nofun
  · exact h

/-- The state with job `n` MOUNTED in place of the mounted one, before its binding check (R8). -/
def State.boundTo (s : State) (n : Nat) : State :=
  { s with
    link := s.link.posted [.load n]
    queue := { s.queue with load := .bound, jobs := s.queue.jobs.map (Job.rebound n) } }

theorem bindJob_unmount (j : Job) (s : State) : bindJob j (unmount s) = bindingCheck j (s.boundTo j.number) := by
  have hjobs : ((s.queue.jobs.map fun k => if k.state = .mounted then { k with state := .queued } else k).map
      fun k => if k.number = j.number then { k with state := .mounted } else k) =
      s.queue.jobs.map (Job.rebound j.number) := by
    rw [List.map_map]
    refine List.map_congr_left fun k _ => ?_
    unfold Job.rebound
    by_cases hs : k.state = .mounted <;> by_cases hn : k.number = j.number <;> simp [hs, hn]
  unfold bindJob
  rw [post_eq]
  simp only [updJob, unmount, State.onQueue, hjobs]
  rfl

theorem boundTo_findJob (h : s.findJob n = some j) : (s.boundTo n).findJob n = some { j with state := .mounted } := by
  rw [findJob_map (f := Job.rebound n) rfl (Job.rebound_number n), h, Option.map_some, Job.rebound,
    if_pos (findJob_number h)]

theorem boundTo_releasedJob (h : s.releasedJob = none) (n : Nat) : (s.boundTo n).releasedJob = none :=
  releasedJob_map (f := Job.rebound n) rfl h fun _ => Job.rebound_not_released n

theorem isReleased_of_findJob (h : s.findJob n = some j) : s.isReleased n = (j.state == .released) := by
  simp [State.isReleased, h]

theorem mayMount_false (h : s.queue.load = .coverOpen ∨ j.state ≠ .queued ∨
    (s.queue.load = .bound ∧ ∀ m, s.mountedJob = some m → m.state ≠ .mounted)) : s.mayMount j = false := by
  rw [Bool.eq_false_iff]
  intro hm
  obtain ⟨hc, hq, hl⟩ := mayMount_iff.mp hm
  rw [coverOpen_eq_false] at hc
  obtain h | h | ⟨hb, h⟩ := h
  · exact hc h
  · exact h hq
  · obtain hu | ⟨m, hm, hs⟩ := hl
    · rw [hb] at hu; cases hu
    · exact h m hm hs

theorem requestMount_refused (hj : jobArg args s = .ok j) (h : s.mayMount j = false) :
    requestMount args s = (s, .no .state) := by
  simp [requestMount, hj, h]

theorem requestMount_bound (hj : jobArg args s = .ok j) (h : s.mayMount j = true) :
    requestMount args s =
      (conclude (bindingCheck j (s.boundTo j.number)),
        .mount j.number ((bindingCheck j (s.boundTo j.number)).isReleased j.number)) := by
  simp only [requestMount, hj, h, if_true, bindJob_unmount]

theorem bindingCheck_mounted (ht : s.timeReached j = false) (hp : j.pendingTrigger = false ∨ j.release.isSome) :
    bindingCheck j s = s := by
  have hpending : ¬ (j.pendingTrigger = true ∧ j.release = none) := by
    rintro ⟨h1, h2⟩
    rcases hp with h | h <;> simp_all
  simp [bindingCheck, ht, hpending]

theorem bindingCheck_released {why : ReleaseCause} (h : (why = .time ∧ s.timeReached j = true) ∨
    (why = .pending ∧ j.pendingTrigger = true ∧ j.release = none)) : bindingCheck j s = release why j s := by
  obtain ⟨rfl, ht⟩ | ⟨rfl, hp, hr⟩ := h
  · simp [bindingCheck, ht]
  · simp [bindingCheck, State.timeReached, hp, hr]

theorem requestMount_mounted (hs : s.resting) (hj : jobArg args s = .ok j) (hf : s.findJob j.number = some j)
    (h : s.mayMount j = true) (ht : s.timeReached j = false) (hp : j.pendingTrigger = false ∨ j.release.isSome) :
    requestMount args s = (s.boundTo j.number, .mount j.number false) := by
  have hcheck : bindingCheck j (s.boundTo j.number) = s.boundTo j.number := bindingCheck_mounted ht hp
  have hresting : (s.boundTo j.number).resting := ⟨boundTo_releasedJob hs.1 _, hs.2⟩
  rw [requestMount_bound hj h, hcheck, conclude_resting hresting, isReleased_of_findJob (boundTo_findJob hf)]
  rfl

theorem requestMount_released {why : ReleaseCause} (hs : s.resting) (hj : jobArg args s = .ok j)
    (hf : s.findJob j.number = some j) (h : s.mayMount j = true) (hready : s.GettingReady)
    (hw : (why = .time ∧ s.timeReached j = true) ∨ (why = .pending ∧ j.pendingTrigger = true ∧ j.release = none)) :
    requestMount args s =
      ({ s with
          link := s.link.posted [.load j.number, .release j.number why, .wait j.number (s.waitCauses j)]
          queue :=
            { load := .bound
              missing := s.waitCauses j
              jobs := s.queue.jobs.map fun k =>
                if k.number = j.number then
                  { k with state := .released, pendingTrigger := false, calTried := false }
                else if k.state = .mounted then { k with state := .queued }
                else k }
          drive := { s.drive with queueWant := some j.speed, idleTimer := none } },
        .mount j.number true) := by
  have hcheck : bindingCheck j (s.boundTo j.number) = release why j (s.boundTo j.number) := bindingCheck_released hw
  have hready' : (s.boundTo j.number).GettingReady := ⟨hready.lamp, hready.drum⟩
  have hsettle := settle_release hready' (boundTo_releasedJob hs.1 _) (boundTo_findJob hf) why
  have hisReleased : (release why j (s.boundTo j.number)).isReleased j.number = true := by
    rw [release_serving (hready'.serving _), isReleased_of_findJob (j := { j with state := .released, pendingTrigger := false, calTried := false })]
    · rfl
    · rw [findJob_map (s := s.boundTo j.number) rfl (by intro k; split_ifs <;> rfl), boundTo_findJob hf]
      simp
  rw [requestMount_bound hj h, hcheck, hisReleased, conclude, hsettle, kick_none (by exact hs.2)]
  have hjobs : ((s.queue.jobs.map (Job.rebound j.number)).map fun k =>
      if k.number = j.number then { k with state := .released, pendingTrigger := false, calTried := false } else k) =
      s.queue.jobs.map fun k =>
        if k.number = j.number then { k with state := .released, pendingTrigger := false, calTried := false }
        else if k.state = .mounted then { k with state := .queued }
        else k := by
    rw [List.map_map]
    refine List.map_congr_left fun k _ => ?_
    simp only [Function.comp_apply, Job.rebound_number]
    unfold Job.rebound
    split_ifs <;> rfl
  simp only [State.boundTo, posted_append, hjobs]
  rfl

/-! ### START (R12) -/

theorem updJob_eq (f : Job → Job) (n : Nat) (s : State) :
    updJob n f s =
      { s with queue := { s.queue with jobs := s.queue.jobs.map fun k => if k.number = n then f k else k } } := rfl

theorem requestStart_queued (hj : jobArg args s = .ok j) (h : j.state = .queued) :
    requestStart args s = (updJob j.number (fun j => { j with pendingTrigger := true }) s, .start j.number false) := by
  simp [requestStart, hj, h]

theorem requestStart_released (hj : jobArg args s = .ok j) (h : j.state = .mounted) (hr : s.mayRelease j = true) :
    requestStart args s = (conclude (release .start j s), .start j.number true) := by
  simp [requestStart, hj, h, hr]

theorem requestStart_refused (hj : jobArg args s = .ok j)
    (h : j.state = .released ∨ j.state = .active ∨ j.state = .finished ∨ (j.state = .mounted ∧ s.mayRelease j = false)) :
    requestStart args s = (s, .no .state) := by
  obtain h | h | h | ⟨h, hr⟩ := h
  · simp [requestStart, hj, h]
  · simp [requestStart, hj, h]
  · simp [requestStart, hj, h]
  · simp [requestStart, hj, h, hr]

theorem mayRelease_of (h : ∀ r, j.release = some r → reached s.backup.clock r = true) : s.mayRelease j = true := by
  unfold State.mayRelease
  split
  · rfl
  next r hr => exact h r hr

theorem requestStart_waits (hs : s.resting) (hj : jobArg args s = .ok j) (hf : s.findJob j.number = some j)
    (h : j.state = .mounted) (hr : s.mayRelease j = true) (hready : s.GettingReady) :
    requestStart args s =
      ({ s with
          link := s.link.posted [.release j.number .start, .wait j.number (s.waitCauses j)]
          queue :=
            { s.queue with
              missing := s.waitCauses j
              jobs := s.queue.jobs.map fun k =>
                if k.number = j.number then
                  { k with state := .released, pendingTrigger := false, calTried := false }
                else k }
          drive := { s.drive with queueWant := some j.speed, idleTimer := none } },
        .start j.number true) := by
  rw [requestStart_released hj h hr, conclude, settle_release hready hs.1 hf, kick_none (by exact hs.2)]

/-- Settles O20: the checks on the job number, check 4 of MOUNT, and the print bound with its binding check. -/
theorem jobMounted : Obligations.JobMounted := by
  unfold Obligations.JobMounted
  dsimp only
  refine ⟨⟨fun args s h hform => ?_, fun w n s h hw hn => ?_, fun w n s h hw h1 h999 hj => ?_⟩,
    fun w n j s h hw h1 h999 hf => ⟨fun hno => ?refused, fun hs hload hq hfree => ⟨fun ht hp => ?mounted,
      fun why hwhy hlamp hdrum => ?released⟩⟩⟩
  · exact exec_job_refused h (jobArg_of_jobNumber (jobNumber_form hform))
  · exact exec_job_refused h (jobArg_of_jobNumber (jobNumber_range hw hn))
  · exact exec_job_refused h (jobArg_unknown hw h1 h999 hj)
  all_goals
    have hj : ∀ f, jobArg [w] (s.onLink f) = .ok j := fun f => jobArg_found (s := s.onLink f) (by assumption) h1 h999 hf
    obtain rfl := findJob_number hf
  case refused =>
    exact exec_takes (.mount [w]) h s _ (requestMount_refused (hj emptyBuffer) (mayMount_false hno))
  all_goals
    have hmay : s.mayMount j = true := mayMount_iff.mpr ⟨coverOpen_eq_false.mpr hload, hq, hfree⟩
  case mounted =>
    exact exec_takes (.mount [w]) h (s.boundTo j.number) _
      (requestMount_mounted (s := s.onLink emptyBuffer) hs (hj emptyBuffer) hf hmay ht hp)
  case released =>
    exact exec_takes (.mount [w]) h _ _
      (requestMount_released (s := s.onLink emptyBuffer) hs (hj emptyBuffer) hf hmay ⟨hlamp, hdrum⟩ hwhy)

/-- Settles O21: the trigger by the state of the job. -/
theorem jobTriggered : Obligations.JobTriggered := by
  intro w n j s h hw h1 h999 hf
  have hj : ∀ f, jobArg [w] (s.onLink f) = .ok j := fun f => jobArg_found (s := s.onLink f) hw h1 h999 hf
  obtain rfl := findJob_number hf
  refine ⟨fun hq => ?queued, fun hs hm hr hload hlamp hdrum => ?released, fun hno => ?refused⟩
  case queued =>
    exact exec_takes (.start [w]) h (updJob j.number _ s) _ (requestStart_queued (hj emptyBuffer) hq)
  case released =>
    exact exec_takes (.start [w]) h _ _
      (requestStart_waits (s := s.onLink emptyBuffer) hs (hj emptyBuffer) hf hm (mayRelease_of hr) ⟨hlamp, hdrum⟩)
  case refused =>
    refine exec_takes (.start [w]) h s _ (requestStart_refused (hj emptyBuffer) ?_)
    refine hno.imp_right (Or.imp_right (Or.imp_right fun ⟨hm, r, hr, hreach⟩ => ⟨hm, ?_⟩))
    simp [State.mayRelease, hr, hreach]

/-! ### A job that starts at once (R16, R20) -/

/-- The state of a RELEASED job's record after its release. -/
theorem release_releasedJob (h : s.Serving j.speed) (hr : s.releasedJob = none) (hk : s.findJob j.number = some k)
    (why : ReleaseCause) :
    (release why j s).releasedJob = some { k with state := .released, pendingTrigger := false, calTried := false } := by
  rw [release_serving h]
  exact releasedJob_updJob (s := s) j.number (fun _ => rfl) hr hk

/-- A job RELEASED with every condition met starts: `*RELEASE`, then `*START`. -/
theorem settle_release_begun (hr : s.releasedJob = none) (hf : s.findJob j.number = some j)
    (hd : s.drive.drum = .locked) (hv : s.drive.lockedAt = some j.speed) (hl : s.drive.lamp = .ready)
    (hcal : s.cal.state = .fresh) (hfree : s.sender.circ = .free) (hpass : j.passNo = 1)
    (hlog : s.receipts.log.length < 16)
    (hcall : ∃ k ∈ j.stations, (s.station k).name.isSome ∧ (s.station k).maskPending = false)
    (hprinter : s.receipts.printer = .ready → s.receipts.slips = []) (why : ReleaseCause) :
    settle (release why j s) =
      { (release why j s).begun { j with state := .released, pendingTrigger := false, calTried := false } with
        link := s.link.posted [.release j.number why, .start j.number j.passNo] } := by
  have hserving : s.Serving j.speed := ⟨by rw [hl]; decide, .inr ⟨hd, hv⟩⟩
  have hreleased := release_releasedJob hserving hr hf why
  have hawaits : (release why j s).awaits { j with state := .released, pendingTrigger := false, calTried := false } := by
    rw [release_serving hserving] at hreleased ⊢
    exact ⟨hreleased, hfree, .inr ⟨hpass, hlog⟩, hcall, hprinter⟩
  rw [release_serving hserving] at hawaits ⊢
  rw [settle_begun hawaits hd hv hl hcal, posted_append]
  rfl

theorem begun_queueWant (s : State) (j : Job) : (s.begun j).drive.queueWant = s.drive.queueWant := by
  simp only [State.begun]
  split_ifs <;> rfl

theorem begun_stepFaults (s : State) (j : Job) : (s.begun j).drive.stepFaults = 0 := by
  simp only [State.begun]
  split_ifs <;> rfl

theorem begun_home (j : Job) (h : s.drive.carriage = .home) : (s.begun j).drive.carriage = .home := by
  simp [State.begun, h]

theorem begun_returning (j : Job) (h : s.drive.carriage = .unhomed ∨ s.drive.carriage = .stepping) :
    (s.begun j).drive.carriage = .returning ∧ (s.begun j).drive.returnTimer = some (s.now + 3000) := by
  obtain h | h := h <;> simp [State.begun, h]

theorem begun_log (h : j.passNo = 1) :
    (s.begun j).receipts.log =
      s.receipts.log ++
        [⟨j.number, j.slug, j.priority, j.pitch, j.speed, j.lines, true, [⟨1, j.stations, s.backup.clock, none⟩]⟩] := by
  simp [State.begun, h]

theorem begun_jobs (hn : k.number = j.number) :
    ((s.queue.jobs.map fun k =>
        if k.number = j.number then { k with state := .released, pendingTrigger := false, calTried := false } else k).map
      fun i => if i.number = k.number then { i with state := .active } else i) =
      s.queue.jobs.map fun k =>
        if k.number = j.number then { k with state := .active, pendingTrigger := false, calTried := false } else k := by
  rw [List.map_map]
  refine List.map_congr_left fun i _ => ?_
  by_cases hi : i.number = j.number <;> simp [hi, hn]

/-- Settles O22: the job is released and starts in one step, and what it leaves is `State.begun`. -/
theorem readyJobStarts : Obligations.ReadyJobStarts := by
  intro w n j s h hs hw h1 h999 hf hm hrelease hpass hload hd hv hl hcal hfree hlog hcall
  have hj : jobArg [w] (s.onLink emptyBuffer) = .ok j := jobArg_found (s := s.onLink emptyBuffer) hw h1 h999 hf
  obtain rfl := findJob_number hf
  have hmay : (s.onLink emptyBuffer).mayRelease j = true := by simp [State.mayRelease, hrelease]
  have hserving : s.Serving j.speed := ⟨by rw [hl]; decide, .inr ⟨hd, hv⟩⟩
  have hsettle := settle_release_begun hs.1 hf hd hv hl hcal hfree hpass hlog hcall hs.2 .start
  have hstart : requestStart [w] (s.onLink emptyBuffer) =
      ((settle (release .start j s)).onLink emptyBuffer, .start j.number true) := by
    rw [requestStart_released hj hm hmay, conclude,
      settle_release_begun (s := s.onLink emptyBuffer) hs.1 hf hd hv hl hcal hfree hpass hlog hcall hs.2, kick_none, hsettle,
      release_serving hserving, release_serving (s := s.onLink emptyBuffer) hserving]
    · rfl
    · rw [release_serving (s := s.onLink emptyBuffer) hserving]
      exact hs.2
  refine ⟨_, exec_takes (.start [w]) h _ _ hstart, ?_⟩
  rw [hsettle, release_serving hserving]
  refine ⟨?jobs, ?log, rfl, rfl, ⟨_, rfl, rfl, rfl, rfl, rfl, rfl, rfl⟩, rfl, ⟨_, rfl, rfl, rfl, rfl, rfl⟩, rfl,
    ⟨_, rfl, rfl, hpass, rfl, rfl, rfl, rfl, rfl, rfl, rfl, ?stations, ?party, _, rfl, rfl, rfl⟩, ?want, ?faults, ?home,
    ?returning, ?link, rfl, rfl, rfl, rfl⟩
  case jobs => exact begun_jobs rfl
  case log => exact begun_log hpass
  case stations => simp [State.partyOf, Function.comp_def]
  case party =>
    intro e he
    obtain ⟨n, _, rfl⟩ := List.mem_map.mp he
    exact ⟨rfl, rfl⟩
  case want => exact begun_queueWant _ { j with state := .released, pendingTrigger := false, calTried := false }
  case faults => exact begun_stepFaults _ { j with state := .released, pendingTrigger := false, calTried := false }
  case home => exact fun hh => begun_home { j with state := .released, pendingTrigger := false, calTried := false } hh
  case returning => exact fun hh => begun_returning { j with state := .released, pendingTrigger := false, calTried := false } hh
  case link => simp only [hpass]; rfl

end Sys2Proof.Machine
end

section
/-! PROOFS. HOLD and GO (R135, R138): what a reason that enters or leaves the set does to a pass. -/

namespace Sys2Proof.Machine

variable {s t : State} {args : List Text} {j : Job} {p : Pass}

/-! ### A reason enters the set (R134, R136) -/

theorem onPass_eq (hp : s.sender.pass = some p) (f : Pass → Pass) :
    s.onPass f = { s with sender := { s.sender with pass := some (f p) } } := by
  simp only [State.onPass, State.onSender, hp, Option.map_some]

theorem pauseChanged_eq (hp : s.sender.pass = some p) :
    pauseChanged s =
      { s with
        link := s.link.posted [.pause p.job p.holdReason p.breakReason]
        sender := { s.sender with tone := pauseTone p } } := by
  simp only [pauseChanged, postPause, hp, State.onSender]
  rw [post_eq]

theorem reasonEntered_paused (hp : s.sender.pass = some p) (hc : s.sender.circ = .paused) :
    reasonEntered s = pauseChanged s := by
  simp only [reasonEntered, hp, hc]

theorem reasonEntered_pending (hp : s.sender.pass = some p)
    (hc : s.sender.circ = .phasing ∨ (s.sender.circ = .picture ∧ (p.pausePending = true ∨ p.line.isSome))) :
    reasonEntered s = { s with sender := { s.sender with pass := some { p with pausePending := true } } } := by
  obtain hc | ⟨hc, hpend⟩ := hc
  · have hstep : reasonEntered s = s.onPass fun p => { p with pausePending := true } := by
      simp only [reasonEntered, hp, hc]
    rw [hstep, onPass_eq hp]
  · by_cases hpause : p.pausePending = true
    · have hstep : reasonEntered s = s := by simp [reasonEntered, hp, hc, hpause]
      have hsame : { p with pausePending := true } = p := by rw [← hpause]
      rw [hstep, hsame, ← hp]
    · have hline : p.line.isNone = false := by
        obtain h | h := hpend
        · exact absurd h hpause
        · simpa using h
      have hstep : reasonEntered s = s.onPass fun p => { p with pausePending := true } := by
        simp [reasonEntered, hp, hc, hpause, hline]
      rw [hstep, onPass_eq hp]

theorem reasonEntered_picture (hp : s.sender.pass = some p) (hc : s.sender.circ = .picture)
    (hpend : p.pausePending = false) (hline : p.line = none) : reasonEntered s = takePause .rephase s := by
  simp [reasonEntered, hp, hc, hpend, hline]

/-- The pass with HOLD in its set and its deadline running (R135, R143). -/
def Pass.held (p : Pass) (deadline : Moment) : Pass := { p with holdReason := true, holdDeadline := some deadline }

theorem addHold_eq (hp : s.sender.pass = some p) :
    addHold s =
      reasonEntered
        { s with sender := { s.sender with pass := some (p.held (s.now + 60000 * s.settings.holdMax)) } } := by
  rw [addHold, onPass_eq hp]
  rfl

/-! ### HOLD -/

theorem requestHold_refused {c : Code} (hj : jobArg args s = .ok j) (h : holdJob j s = .error c) :
    requestHold args s = (s, .no c) := by
  simp [requestHold, hj, h]

theorem requestHold_taken {paused : Bool} (hj : jobArg args s = .ok j) (h : holdJob j s = .ok (paused, t)) :
    requestHold args s = (t, .hold j.number paused) := by
  simp [requestHold, hj, h]

theorem holdJob_not_active (h : j.state ≠ .active) : holdJob j s = .error .state := by
  simp [holdJob, h]

theorem holdJob_error {c : Code} (ha : j.state = .active) (hp : s.sender.pass = some p)
    (h : holdAnswer s.sender.circ p = .error c) : holdJob j s = .error c := by
  simp [holdJob, ha, hp, h]

theorem holdJob_ok {paused : Bool} (ha : j.state = .active) (hp : s.sender.pass = some p)
    (h : holdAnswer s.sender.circ p = .ok paused) : holdJob j s = .ok (paused, addHold s) := by
  simp [holdJob, ha, hp, h]

/-! #### HOLD by the circuit state -/

/-- The pass with HOLD in its set, its pause still to take effect. -/
def State.holdPending (s : State) (p : Pass) : State :=
  { s with
    sender :=
      { s.sender with pass := some { p.held (s.now + 60000 * s.settings.holdMax) with pausePending := true } } }

theorem addHold_pending (hp : s.sender.pass = some p)
    (hc : s.sender.circ = .phasing ∨ (s.sender.circ = .picture ∧ (p.pausePending = true ∨ p.line.isSome))) :
    addHold s = s.holdPending p := by
  rw [addHold_eq hp]
  exact reasonEntered_pending (p := p.held _) rfl hc

/-- The pass paused at once at the resume point REPHASE (R136, R139). -/
def State.holdPaused (s : State) (p : Pass) : State :=
  { s with
    link := s.link.posted [.pause p.job true p.breakReason]
    sender :=
      { circ := .paused
        pass :=
          some
            { p.held (s.now + 60000 * s.settings.holdMax) with
              pausePending := false, resume := some .rephase, line := none }
        tone := pauseTone p
        signalEnds := none } }

theorem addHold_paused (hp : s.sender.pass = some p) (hc : s.sender.circ = .picture) (hpend : p.pausePending = false)
    (hline : p.line = none) : addHold s = s.holdPaused p := by
  rw [addHold_eq hp]
  refine (reasonEntered_picture (p := p.held _) rfl (by exact hc) (by exact hpend) (by exact hline)).trans ?_
  exact takePause_eq (p := p.held _) rfl nofun

/-- The pass that stays PAUSED with HOLD in its set (R139). -/
def State.holdStill (s : State) (p : Pass) : State :=
  { s with
    link := s.link.posted [.pause p.job true p.breakReason]
    sender := { s.sender with pass := some (p.held (s.now + 60000 * s.settings.holdMax)), tone := pauseTone p } }

theorem addHold_still (hp : s.sender.pass = some p) (hc : s.sender.circ = .paused) : addHold s = s.holdStill p := by
  rw [addHold_eq hp]
  refine (reasonEntered_paused (p := p.held _) rfl (by exact hc)).trans ?_
  exact pauseChanged_eq (p := p.held _) rfl

section Hold

variable {w : Text} (h : s.takes) (hj : jobArg [w] (s.onLink emptyBuffer) = .ok j) (hp : s.sender.pass = some p)

include h hj in
theorem exec_hold_not_active (ha : j.state ≠ .active) : exec (.hold [w]) s = .next (s.answered (.no .state)) :=
  exec_takes (.hold [w]) h s _ (requestHold_refused hj (holdJob_not_active ha))

include h hj hp

theorem exec_hold_refused {c : Code} (ha : j.state = .active) (hr : holdAnswer s.sender.circ p = .error c) :
    exec (.hold [w]) s = .next (s.answered (.no c)) :=
  exec_takes (.hold [w]) h s _ (requestHold_refused hj (holdJob_error (s := s.onLink emptyBuffer) ha hp hr))

theorem exec_hold_taken {paused : Bool} (ha : j.state = .active) (hr : holdAnswer s.sender.circ p = .ok paused)
    (ht : addHold (s.onLink emptyBuffer) = t.onLink emptyBuffer) :
    exec (.hold [w]) s = .next (t.answered (.hold j.number paused)) := by
  refine exec_takes (.hold [w]) h t _ ?_
  rw [← ht]
  exact requestHold_taken hj (holdJob_ok (s := s.onLink emptyBuffer) ha hp hr)

theorem exec_hold_phasing (ha : j.state = .active) (hc : s.sender.circ = .phasing) :
    exec (.hold [w]) s =
      .next
        (if p.pausePending = true ∧ p.holdReason = true then s.answered (.no .state)
        else (s.holdPending p).answered (.hold j.number false)) := by
  by_cases hpend : p.pausePending = true ∧ p.holdReason = true
  · rw [if_pos hpend]
    exact exec_hold_refused h hj hp ha (by simp [hc, holdAnswer, hpend])
  · rw [if_neg hpend]
    exact exec_hold_taken h hj hp ha (by rw [hc]; exact if_neg hpend)
      (addHold_pending (s := s.onLink emptyBuffer) hp (.inl hc))

theorem exec_hold_picture (ha : j.state = .active) (hc : s.sender.circ = .picture) :
    exec (.hold [w]) s =
      .next
        (if p.line.isSome = true ∧ p.sent + 1 = p.lines then s.answered (.no .late)
        else if p.pausePending = true ∧ p.holdReason = true then s.answered (.no .state)
        else if p.pausePending = true ∨ p.line.isSome = true then (s.holdPending p).answered (.hold j.number false)
        else (s.holdPaused p).answered (.hold j.number true)) := by
  have hlast : p.lastLineTaken = true ↔ p.line.isSome = true ∧ p.sent + 1 = p.lines := by simp [Pass.lastLineTaken]
  split_ifs with hl hpend hwait
  · exact exec_hold_refused h hj hp ha (by simp [hc, holdAnswer, hlast, hl])
  · exact exec_hold_refused h hj hp ha (by simp [hc, holdAnswer, hlast, hl, hpend])
  · have hanswer : holdAnswer s.sender.circ p = .ok false := by
      simp only [hc, holdAnswer, hlast, hl, if_false]
      by_cases hpause : p.pausePending = true
      · have hhold : ¬ p.holdReason = true := fun hh => hpend ⟨hpause, hh⟩
        simp [hpause, hhold]
      · have hline := hwait.resolve_left hpause
        simp [hpause, Option.isNone_eq_false_iff.mpr hline]
    exact exec_hold_taken h hj hp ha hanswer (addHold_pending (s := s.onLink emptyBuffer) hp (.inr ⟨hc, hwait⟩))
  · obtain ⟨hpause, hline⟩ := not_or.mp hwait
    have hline : p.line = none := by simpa using hline
    have hpause : p.pausePending = false := by simpa using hpause
    exact exec_hold_taken h hj hp ha (by simp [hc, holdAnswer, Pass.lastLineTaken, hline, hpause])
      (addHold_paused (s := s.onLink emptyBuffer) hp hc hpause hline)

theorem exec_hold_paused (ha : j.state = .active) (hc : s.sender.circ = .paused) :
    exec (.hold [w]) s =
      .next
        (if p.holdReason = true ∨ ¬ (p.resume = some .rephase ∨ p.resume = some .phasing) then s.answered (.no .state)
        else (s.holdStill p).answered (.hold j.number true)) := by
  split_ifs with hno
  · refine exec_hold_refused h hj hp ha ?_
    by_cases hh : p.holdReason = true
    · simp [hc, holdAnswer, hh]
    · simp [hc, holdAnswer, hh, hno.resolve_left hh]
  · obtain ⟨hh, hr⟩ := not_or.mp hno
    have hr := not_not.mp hr
    exact exec_hold_taken h hj hp ha (by simp [hc, holdAnswer, hh, hr])
      (addHold_still (s := s.onLink emptyBuffer) hp hc)

theorem exec_hold_other (ha : j.state = .active)
    (hc : s.sender.circ ≠ .phasing ∧ s.sender.circ ≠ .picture ∧ s.sender.circ ≠ .paused) :
    exec (.hold [w]) s = .next (s.answered (.no .state)) := by
  obtain ⟨h1, h2, h3⟩ := hc
  refine exec_hold_refused h hj hp ha ?_
  cases hcirc : s.sender.circ <;> first | rfl | exact absurd hcirc h1 | exact absurd hcirc h2 | exact absurd hcirc h3

end Hold

/-! ### A reason leaves the set (R136, R138, R141) -/

theorem reasonLeft_stays (hp : s.sender.pass = some p) (hset : p.holdReason = true ∨ p.breakReason = true)
    (hc : s.sender.circ ≠ .paused) : reasonLeft s = s := by
  simp [reasonLeft, hp, hset, hc]

theorem reasonLeft_cancelled (hp : s.sender.pass = some p) (hh : p.holdReason = false) (hb : p.breakReason = false)
    (hc : s.sender.circ ≠ .paused) :
    reasonLeft s = { s with sender := { s.sender with pass := some { p with pausePending := false } } } := by
  have hstep : reasonLeft s = s.onPass fun p => { p with pausePending := false } := by
    simp [reasonLeft, hp, hh, hb, hc]
  rw [hstep, onPass_eq hp]

theorem reasonLeft_still (hp : s.sender.pass = some p) (hset : p.holdReason = true ∨ p.breakReason = true)
    (hc : s.sender.circ = .paused) : reasonLeft s = pauseChanged s := by
  simp [reasonLeft, hp, hset, hc]

theorem reasonLeft_waits (hp : s.sender.pass = some p) (hh : p.holdReason = false) (hb : p.breakReason = false)
    (hc : s.sender.circ = .paused) (hr : p.resume = some .rephase ∨ p.resume = some .phasing) :
    reasonLeft s = { s with sender := { s.sender with tone := pauseTone p } } := by
  obtain hr | hr := hr
  · have hstep : reasonLeft s = s.onSender fun x => { x with tone := pauseTone p } := by
      simp [reasonLeft, hp, hh, hb, hc, hr]
    rw [hstep, State.onSender]
  · have hstep : reasonLeft s = s.onSender fun x => { x with tone := pauseTone p } := by
      simp [reasonLeft, hp, hh, hb, hc, hr]
    rw [hstep, State.onSender]

theorem reasonLeft_resumes {pt : ResumePoint} (hp : s.sender.pass = some p) (hh : p.holdReason = false)
    (hb : p.breakReason = false) (hc : s.sender.circ = .paused) (hr : p.resume = some pt)
    (hpt : pt = .callup ∨ pt = .ending ∨ pt = .gathering) : reasonLeft s = resumeAt pt s := by
  obtain rfl | rfl | rfl := hpt <;> simp [reasonLeft, hp, hh, hb, hc, hr]

theorem resumeAt_gathering (hp : s.sender.pass = some p) :
    resumeAt .gathering s =
      { s with
        link := s.link.posted [.resume p.job .gathering]
        sender := ⟨.gathering, some { p with resume := none }, .silent, none⟩ } := by
  simp only [resumeAt, hp]
  rw [post_eq, onPass_eq hp]
  rfl

/-- The pass with HOLD gone from its set and its deadline dropped (R138). -/
def Pass.released (p : Pass) : Pass := { p with holdReason := false, holdDeadline := none }

theorem removeHold_eq (hp : s.sender.pass = some p) :
    removeHold s = reasonLeft { s with sender := { s.sender with pass := some p.released } } := by
  rw [removeHold, onPass_eq hp]
  rfl

/-! ### GO -/

section Go

variable {w : Text} (h : s.takes) (hs : s.resting) (hj : jobArg [w] (s.onLink emptyBuffer) = .ok j)
  (hp : s.sender.pass = some p)

include h hj hp

theorem exec_go_refused (hno : j.state ≠ .active ∨ p.holdReason = false) :
    exec (.go [w]) s = .next (s.answered (.no .state)) := by
  have hgo : goJob j (s.onLink emptyBuffer) = .error .state := by
    obtain ha | hh := hno
    · simp [goJob, ha]
    · simp [goJob, hp, hh]
  exact exec_takes (.go [w]) h s _ (by simp [ownerTakes, requestGo, hj, hgo])

include hs in
/-- GO taken, with a pass that leaves queue and printer as they are. -/
theorem exec_go_taken (ha : j.state = .active) (hh : p.holdReason = true)
    (ht : removeHold (s.onLink emptyBuffer) = t.onLink emptyBuffer) (hq : t.queue = s.queue)
    (hr : t.receipts = s.receipts) : exec (.go [w]) s = .next (t.answered (.go j.number)) := by
  have hgo : goJob j (s.onLink emptyBuffer) = .ok (t.onLink emptyBuffer) := by
    rw [← ht]
    simp [goJob, ha, hp, hh]
  have hresting : (t.onLink emptyBuffer).resting := by
    have hsame : t.releasedJob = s.releasedJob := by unfold State.releasedJob; rw [hq]
    exact ⟨hsame.trans hs.1, by rw [State.onLink_receipts, hr]; exact hs.2⟩
  refine exec_takes (.go [w]) h t _ ?_
  simp only [ownerTakes, requestGo, hj, hgo]
  rw [conclude_resting hresting]

end Go

/-- Settles O23: HOLD by the circuit state, and GO by what is left of the set and by the pause. -/
theorem holdAndGoTaken : Obligations.HoldAndGoTaken := by
  refine ⟨fun w n j p s h hw h1 h999 hf hp => ?hold, fun w n j p s h hs hw h1 h999 hf hp => ?go⟩
  all_goals
    have hj : jobArg [w] (s.onLink emptyBuffer) = .ok j := jobArg_found (s := s.onLink emptyBuffer) hw h1 h999 hf
    obtain rfl := findJob_number hf
  case hold =>
    dsimp only
    by_cases ha : j.state = .active
    · rw [if_neg (not_not.mpr ha)]
      split
      next hc => exact exec_hold_phasing h hj hp ha hc
      next hc => exact exec_hold_picture h hj hp ha hc
      next hc => exact exec_hold_paused h hj hp ha hc
      next h1 h2 h3 => exact exec_hold_other h hj hp ha ⟨h1, h2, h3⟩
    · rw [if_pos ha]
      exact exec_hold_not_active h hj ha
  case go =>
    refine ⟨fun hno => exec_go_refused h hj hp hno, fun ha hh hc => ?pending, fun ha hh hc hb => ?still,
      fun ha hh hc hb hr => ?waits, fun ha hh hc hb hr => ?resumes⟩
    case pending =>
      refine exec_go_taken h hs hj hp ha hh ?_ rfl rfl
      rw [removeHold_eq (s := s.onLink emptyBuffer) hp]
      obtain hb | hb := Bool.eq_false_or_eq_true p.breakReason
      · have hpause : (p.breakReason && p.pausePending) = p.pausePending := by rw [hb, Bool.true_and]
        refine (reasonLeft_stays (p := p.released) rfl (.inr hb) (by exact hc)).trans ?_
        rw [hpause]
        rfl
      · have hpause : (p.breakReason && p.pausePending) = false := by rw [hb, Bool.false_and]
        refine (reasonLeft_cancelled (p := p.released) rfl rfl hb (by exact hc)).trans ?_
        rw [hpause]
        rfl
    case still =>
      refine exec_go_taken h hs hj hp ha hh ?_ rfl rfl
      rw [removeHold_eq (s := s.onLink emptyBuffer) hp]
      refine (reasonLeft_still (p := p.released) rfl (.inr hb) (by exact hc)).trans ?_
      have htone : pauseTone p.released = .silent := if_pos hb
      rw [pauseChanged_eq (p := p.released) rfl, htone]
      simp only [Pass.released, hb]
      rfl
    case waits =>
      refine exec_go_taken h hs hj hp ha hh ?_ rfl rfl
      rw [removeHold_eq (s := s.onLink emptyBuffer) hp]
      have htone : pauseTone p.released = .steady p.copy.white := if_neg (ne_true_of_eq_false hb)
      refine (reasonLeft_waits (p := p.released) rfl rfl hb (by exact hc) hr).trans ?_
      rw [htone]
      rfl
    case resumes =>
      refine exec_go_taken h hs hj hp ha hh ?_ rfl rfl
      rw [removeHold_eq (s := s.onLink emptyBuffer) hp]
      refine (reasonLeft_resumes (p := p.released) rfl rfl hb (by exact hc) hr (.inr (.inr rfl))).trans ?_
      exact resumeAt_gathering (p := p.released) rfl

end Sys2Proof.Machine
end

section
/-! PROOFS. KILL (R24, R145) by the state of the job and of its pass. -/

namespace Sys2Proof.Machine

variable {s t : State} {args : List Text} {w : Text} {n : Nat} {j : Job} {p : Pass}

/-! ### A request line whose owner posts reports -/

/-- The step of a request line taken at once, its owner leaving `x` with reports posted. -/
theorem exec_takes_posted (r : Request) (h : s.takes) {x : State} {v : Reply} {rs : List Report}
    (ho : ownerTakes r (s.onLink emptyBuffer) = (x, v)) (hl : x.link = (emptyBuffer s.link).posted rs) :
    exec r.toInstr s = .next { x with link := (s.link.posted rs).answered v } := by
  rw [exec_request, live_on _ h.1, deliver_takes r h, takeRequest, ho]
  dsimp only
  rw [pump_waiting v, hl]
  rfl

/-! ### The stage of a pass (R144) -/

theorem stage_unsent (hp : s.sender.pass = some p) (h : s.unsent p) : s.stage = .unsent := by
  obtain h | h | ⟨h, hr⟩ := h
  · simp [State.stage, hp, h, stageOf]
  · simp [State.stage, hp, h, stageOf]
  · simp [State.stage, hp, h, hr, stageOf]

theorem stage_sending (hp : s.sender.pass = some p) (h : s.midPicture p) : s.stage = .sending := by
  obtain h | h | ⟨h, hr | hr⟩ := h
  · simp [State.stage, hp, h, stageOf]
  · simp [State.stage, hp, h, stageOf]
  · simp [State.stage, hp, h, hr, stageOf]
  · simp [State.stage, hp, h, hr, stageOf]

theorem stage_sent (hp : s.sender.pass = some p) (h : s.sentInFull p) : s.stage = .sent := by
  obtain h | h | ⟨h, hr | hr⟩ := h
  · simp [State.stage, hp, h, stageOf]
  · simp [State.stage, hp, h, stageOf]
  · simp [State.stage, hp, h, hr, stageOf]
  · simp [State.stage, hp, h, hr, stageOf]

theorem stage_killing (hp : s.sender.pass = some p) (h : s.sender.circ = .killing) : s.stage = .killing := by
  simp [State.stage, hp, h, stageOf]

/-! ### A job leaves the queue (R24, R157) -/

/-- The log with the record of a job that has left the queue closed, where no pass of it runs (R157). -/
def recordsClosed (n : Nat) (log : List Record) : List Record :=
  log.map fun r => if r.job = n ∧ ∀ e ∈ r.passes, e.close.isSome then { r with isOpen := false } else r

theorem closeRecord_gone (h : s.findJob n = none) :
    closeRecord n s = { s with receipts := { s.receipts with log := recordsClosed n s.receipts.log } } := by
  have hidle : ∀ r : Record, r.inProgress = false ↔ ∀ e ∈ r.passes, e.close.isSome := by
    simp [Record.inProgress, PassEntry.inProgress, Option.isSome_iff_ne_none]
  have hlog : (s.receipts.log.map fun r =>
      if r.job = n then (if r.inProgress then r else { r with isOpen := false }) else r) =
      recordsClosed n s.receipts.log := by
    refine List.map_congr_left fun r _ => ?_
    simp only [← hidle]
    by_cases hn : r.job = n <;> cases hr : r.inProgress <;> simp [hn]
  simp [closeRecord, h, updRecord, State.onReceipts, hlog]

theorem findJob_filtered {jobs : List Job} (h : s.queue.jobs = jobs.filter fun k => k.number != n) :
    s.findJob n = none := by
  simp [State.findJob, h]

/-- The jobs of the queue without one number. -/
def State.jobsWithout (s : State) (n : Nat) : List Job := s.queue.jobs.filter fun k => k.number != n

theorem leaveQueue_queued (h : j.state = .queued) :
    leaveQueue j s =
      { s with
        receipts := { s.receipts with log := recordsClosed j.number s.receipts.log }
        queue := { s.queue with jobs := s.jobsWithout j.number } } := by
  unfold leaveQueue
  dsimp only
  rw [if_pos h, closeRecord_gone (findJob_filtered (jobs := s.queue.jobs) rfl)]
  rfl

/-- A bound job leaves under a closed cover: the print is unbound after its wants are withdrawn. -/
theorem leaveQueue_bound {d : Drive} (h : j.state ≠ .queued) (hload : s.queue.load ≠ .coverOpen)
    (hw : withdrawQueueWant { s with queue := ⟨s.jobsWithout j.number, s.queue.load, []⟩ } =
      { s with queue := ⟨s.jobsWithout j.number, s.queue.load, []⟩, drive := d }) :
    leaveQueue j s =
      { s with
        link := s.link.posted [.loadUnbound]
        receipts := { s.receipts with log := recordsClosed j.number s.receipts.log }
        queue := ⟨s.jobsWithout j.number, .unbound, []⟩
        drive := d } := by
  have hwithdrawn : withdrawQueueWant ((s.onQueue fun q => { q with jobs := q.jobs.filter fun k => k.number != j.number }).onQueue
      fun q => { q with missing := [] }) =
      { s with queue := ⟨s.jobsWithout j.number, s.queue.load, []⟩, drive := d } := hw
  unfold leaveQueue
  dsimp only
  rw [if_neg h, hwithdrawn, if_neg (by simpa [State.coverOpen] using hload), post_eq,
    closeRecord_gone (findJob_filtered (jobs := s.queue.jobs) rfl)]
  rfl

theorem withdrawQueueWant_none (h : s.drive.queueWant = none) : withdrawQueueWant s = s := by
  simp [withdrawQueueWant, h]

theorem releasedJob_filter (f : Job → Bool) (hq : t.queue.jobs = s.queue.jobs.filter f)
    (h : ∀ k ∈ s.queue.jobs, k.state = .released → f k = false) : t.releasedJob = none := by
  unfold State.releasedJob
  rw [hq]
  simp only [List.find?_eq_none, List.mem_filter, beq_iff_eq]
  rintro k ⟨hk, hf⟩ hs
  rw [h k hk hs] at hf
  cases hf

theorem not_released_of_none (h : s.releasedJob = none) : ∀ k ∈ s.queue.jobs, k.state ≠ .released := by
  simpa [State.releasedJob] using h

/-! ### KILL -/

theorem requestKill_refused {c : Code} (hj : jobArg args s = .ok j) (h : killJob j s = .error c) :
    requestKill args s = (s, .no c) := by
  simp [requestKill, hj, h]

theorem requestKill_taken {removed : Bool} (hj : jobArg args s = .ok j) (h : killJob j s = .ok (removed, t)) :
    requestKill args s = (conclude t, .kill j.number removed) := by
  simp [requestKill, hj, h]

theorem killJob_waiting (h : j.state = .queued ∨ j.state = .mounted ∨ j.state = .released) :
    killJob j s = .ok (true, leaveQueue j s) := by
  obtain h | h | h := h <;> simp [killJob, h]

theorem killJob_active (h : j.state = .active) (hk : killPass s = .ok t) : killJob j s = .ok (false, t) := by
  simp [killJob, h, hk, Except.map]

theorem killJob_late (h : j.state = .active) (hk : killPass s = .error .late) : killJob j s = .error .late := by
  simp [killJob, h, hk, Except.map]

theorem killPass_unsent (hp : s.sender.pass = some p) (h : s.unsent p) :
    killPass s = .ok (terminate .killed none false s) := by
  simp [killPass, hp, stage_unsent hp h]

theorem killPass_sending (hp : s.sender.pass = some p) (h : s.midPicture p) :
    killPass s = .ok (terminate .killed none (!p.breakReason) s) := by
  simp [killPass, hp, stage_sending hp h]

theorem killPass_late (hp : s.sender.pass = some p) (h : s.sentInFull p ∨ s.sender.circ = .killing) :
    killPass s = .error .late := by
  obtain h | h := h
  · simp [killPass, hp, stage_sent hp h]
  · simp [killPass, hp, stage_killing hp h]

section Kill

variable (h : s.takes) (hj : jobArg [w] (s.onLink emptyBuffer) = .ok j)

include h hj

/-- KILL of a job not yet started. -/
theorem exec_kill_waiting (hq : j.state = .queued ∨ j.state = .mounted ∨ j.state = .released)
    (ht : leaveQueue j (s.onLink emptyBuffer) = t.onLink emptyBuffer) (hs : t.resting) :
    exec (.kill [w]) s = .next (t.answered (.kill j.number true)) := by
  refine exec_takes (.kill [w]) h t _ ((requestKill_taken hj (killJob_waiting hq)).trans ?_)
  rw [ht, conclude_resting (by exact hs)]

theorem exec_kill_refused {c : Code} (hk : killJob j (s.onLink emptyBuffer) = .error c) :
    exec (.kill [w]) s = .next (s.answered (.no c)) :=
  exec_takes (.kill [w]) h s _ (requestKill_refused hj hk)

/-- KILL of a pass of which nothing was sent, or under a break: closed at once. -/
theorem exec_kill_closed (ha : j.state = .active) (hr : s.releasedJob = none) (hp : s.sender.pass = some p)
    (hstage : s.unsent p ∨ (s.midPicture p ∧ p.breakReason = true)) (hd : p.detached = false) (hh : s.holdsJob p) :
    ∃ t, exec (.kill [w]) s = .next t ∧ t.now = s.now ∧ s.closes t p .killed ∧
      t.link = (s.link.posted (p.endReports .killed none)).answered (.kill j.number false) := by
  let u : State := { s.onLink emptyBuffer with sender := { s.sender with pass := some (p.decided .killed none) } }
  have hkill : killPass (s.onLink emptyBuffer) = .ok (closePass u) := by
    have hclose := terminate_close (s := s.onLink emptyBuffer) .killed none hp
    obtain hstage | ⟨hstage, hb⟩ := hstage
    · rw [killPass_unsent (s := s.onLink emptyBuffer) hp hstage, hclose]
      rfl
    · rw [killPass_sending (s := s.onLink emptyBuffer) hp hstage, hb, Bool.not_true, hclose]
      rfl
  obtain ⟨hlink, hnow, hcloses⟩ := closePass_closes (s := u) (p := p.decided .killed none) rfl rfl hh
  have hreleased : (closePass u).releasedJob = none := by
    obtain ⟨_, _, _, _, _, _, hqueue, _⟩ := hcloses
    rw [if_neg (by exact ne_true_of_eq_false hd),
      if_pos (show (p.decided .killed none).outcome.getD .failed = .killed from rfl)] at hqueue
    refine releasedJob_filter (s := s) (fun k => k.number != p.job) (by rw [hqueue]; rfl) fun k hk hs => ?_
    exact absurd hs (not_released_of_none hr k hk)
  have hconclude : conclude (closePass u) = { closePass u with receipts := (kick (closePass u)).receipts } := by
    rw [conclude, settle_none hreleased, kick_frame]
  refine ⟨_, exec_takes_posted (.kill [w]) h (requestKill_taken hj (killJob_active ha hkill)) ?_, ?_, ?_, rfl⟩
  · rw [hconclude]
    exact hlink
  · rw [hconclude]
    exact hnow
  · rw [hconclude]
    exact hcloses

/-- KILL of a pass being sent: the kill signal begins and scanning ends. -/
theorem exec_kill_signalled (ha : j.state = .active) (hs : s.resting) (hp : s.sender.pass = some p)
    (hb : p.breakReason = false) (hstage : s.midPicture p) :
    exec (.kill [w]) s =
      .next
        (({ s with
            scan := s.scan.over
            sender :=
              ⟨.killing, some (p.decided .killed none), .kill s.now, some (s.now + 3000)⟩ } : State).answered
          (.kill j.number false)) := by
  have hkill : killPass (s.onLink emptyBuffer) = .ok (terminate .killed none true (s.onLink emptyBuffer)) := by
    rw [killPass_sending (s := s.onLink emptyBuffer) hp hstage, hb, Bool.not_false]
  rw [terminate_signal (s := s.onLink emptyBuffer) .killed none hp] at hkill
  refine exec_takes (.kill [w]) h _ _ ((requestKill_taken hj (killJob_active ha hkill)).trans ?_)
  rw [conclude_resting (by exact hs)]
  rfl

end Kill

/-- Settles O24: the row by the state of the job, and for an ACTIVE one by the stage of its pass. -/
theorem killTaken : Obligations.KillTaken := by
  intro w n j s h hprinter hw h1 h999 hf
  have hj : jobArg [w] (s.onLink emptyBuffer) = .ok j := jobArg_found (s := s.onLink emptyBuffer) hw h1 h999 hf
  obtain rfl := findJob_number hf
  refine ⟨fun hq hr => ?queued, fun hm hr hload hwant => ?mounted, fun hrel honly hload hwant hcal hidle => ?released,
    fun p ha hr hp hpj hd hstage hh => exec_kill_closed h hj ha hr hp hstage hd hh,
    fun p ha hr hp hb hstage => exec_kill_signalled h hj ha ⟨hr, hprinter⟩ hp hb hstage,
    fun p ha hp hstage => ?late, fun hfin => ?finished⟩
  case queued =>
    refine exec_kill_waiting h hj (.inl hq) (leaveQueue_queued hq) ⟨?_, hprinter⟩
    exact releasedJob_filter (s := s) _ rfl fun k hk hs => absurd hs (not_released_of_none hr k hk)
  case mounted =>
    refine exec_kill_waiting h hj (.inr (.inl hm))
      (leaveQueue_bound (s := s.onLink emptyBuffer) (d := s.drive) (by rw [hm]; decide) hload
        (withdrawQueueWant_none hwant)) ⟨?_, hprinter⟩
    exact releasedJob_filter (s := s) _ rfl fun k hk hs => absurd hs (not_released_of_none hr k hk)
  case released =>
    refine exec_kill_waiting h hj (.inr (.inr hrel))
      (leaveQueue_bound (s := s.onLink emptyBuffer) (by rw [hrel]; decide) hload
        (withdrawQueueWant_only hwant hcal hidle)) ⟨?_, hprinter⟩
    exact releasedJob_filter (s := s) _ rfl fun k hk hs => by simp [honly k hk hs]
  case late => exact exec_kill_refused h hj (killJob_late ha (killPass_late (s := s.onLink emptyBuffer) hp hstage))
  case finished => exact exec_kill_refused h hj (by simp [killJob, hfin])

end Sys2Proof.Machine
end

section
/-! PROOFS. REPEAT (R22) and CLOCK (R185): their forms, their checks in order and what they leave. -/

namespace Sys2Proof.Machine

variable {s : State} {args : List Text} {w d : Text} {n : Nat} {ns : List Nat} {j : Job}

/-! ### REPEAT (R22) -/

theorem repeatForm?_eq_some (h : repeatForm? args = some (n, ns)) :
    ∃ w v, args = [w, "STN=".toList ++ v] ∧ isNumber w ∧ isNumberList v := by
  unfold repeatForm? at h
  split at h
  next w v =>
    split at h
    next hw hv =>
      obtain ⟨v', hv', hns⟩ := Option.bind_eq_some_iff.mp hv
      rw [(valueOf?_eq_some_iff (by decide)).mp hv']
      exact ⟨w, v', rfl, isNumber_of_number? hw, isNumberList_of_numbers? hns⟩
    next => cases h
  next => cases h

theorem repeatForm?_none (h : ∀ w v, args = [w, "STN=".toList ++ v] → ¬ (isNumber w ∧ isNumberList v)) :
    repeatForm? args = none := by
  refine Option.eq_none_iff_forall_ne_some.mpr fun f hf => ?_
  obtain ⟨w, v, hargs, hform⟩ := repeatForm?_eq_some (n := f.1) (ns := f.2) hf
  exact h w v hargs hform

theorem repeatForm?_words (hw : number? w = some n) (hns : ns ≠ []) :
    repeatForm? [w, "STN=".toList ++ joinWith ',' (ns.map (Nat.toDigits 10))] = some (n, ns) := by
  have hv : valueOf? "STN".toList ("STN=".toList ++ joinWith ',' (ns.map (Nat.toDigits 10))) =
      some (joinWith ',' (ns.map (Nat.toDigits 10))) := (valueOf?_eq_some_iff (by decide)).mpr rfl
  have hnumbers : numbers? (joinWith ',' (ns.map (Nat.toDigits 10))) = some ns := numbers?_join hns
  simp only [repeatForm?, hw, hv, Option.bind_some, hnumbers]

/-- Checks 4 to 7 of R22 in their order. -/
theorem repeatRefusal_eq (j : Job) (ns : List Nat) (s : State) :
    repeatRefusal j ns s =
      if j.state ≠ .finished then some .state
      else if ∃ k ∈ ns, k < 1 ∨ 16 < k ∨ (s.station k).name = none then some .range
      else if ¬ ns.Nodup then some .duplicate
      else if 4 ≤ j.passNo then some .full
      else none := by
  have hrange : (!ns.all fun n => stationOk n && s.defined n) = true ↔
      ∃ k ∈ ns, k < 1 ∨ 16 < k ∨ (s.station k).name = none := by
    simp only [Bool.not_eq_true', List.all_eq_false, stationOk, State.defined, Bool.and_eq_true, decide_eq_true_eq,
      Option.isSome_iff_ne_none, not_and_or, not_le, not_not, or_assoc]
  exact if_congr Iff.rfl rfl (if_congr hrange rfl rfl)

theorem requestRepeat_illFormed (h : repeatForm? args = none) : requestRepeat args s = (s, .no .form) := by
  simp [requestRepeat, h]

theorem requestRepeat_range (h : repeatForm? args = some (n, ns)) (hn : ¬ (1 ≤ n ∧ n ≤ 999)) :
    requestRepeat args s = (s, .no .range) := by
  simp only [requestRepeat, h, if_neg hn]

theorem requestRepeat_unknown (h : repeatForm? args = some (n, ns)) (h1 : 1 ≤ n) (h999 : n ≤ 999)
    (hj : ∀ j ∈ s.queue.jobs, j.number ≠ n) : requestRepeat args s = (s, .no .unknown) := by
  have hnone : s.findJob n = none := by simpa [State.findJob] using hj
  simp only [requestRepeat, h, if_pos (And.intro h1 h999), hnone]

theorem requestRepeat_refused {c : Code} (h : repeatForm? args = some (n, ns)) (h1 : 1 ≤ n) (h999 : n ≤ 999)
    (hj : s.findJob n = some j) (hc : repeatRefusal j ns s = some c) : requestRepeat args s = (s, .no c) := by
  simp only [requestRepeat, h, if_pos (And.intro h1 h999), hj, hc]

theorem requestRepeat_taken (h : repeatForm? args = some (n, ns)) (h1 : 1 ≤ n) (h999 : n ≤ 999)
    (hj : s.findJob n = some j) (hc : repeatRefusal j ns s = none) :
    requestRepeat args s = (conclude (repeatJob j ns s), .repeatPass n (j.passNo + 1)) := by
  simp only [requestRepeat, h, if_pos (And.intro h1 h999), hj, hc]

/-- A FINISHED job released for its next pass while the drum and the lamp get ready. -/
theorem conclude_repeatJob (hs : s.resting) (hready : s.GettingReady) (hj : s.findJob j.number = some j) (ns : List Nat) :
    conclude (repeatJob j ns s) =
      { s with
        link := s.link.posted
          [.release j.number .repeatPass, .wait j.number (s.waitCauses { j with passNo := j.passNo + 1 })]
        queue :=
          { s.queue with
            missing := s.waitCauses { j with passNo := j.passNo + 1 }
            jobs := s.queue.jobs.map fun k =>
              if k.number = j.number then
                { k with
                  state := .released
                  pendingTrigger := false
                  calTried := false
                  passNo := k.passNo + 1
                  stations := ascending ns }
              else k }
        drive := { s.drive with queueWant := some j.speed, idleTimer := none } } := by
  have hready' : (updJob j.number (fun j => { j with passNo := j.passNo + 1, stations := ascending ns }) s).GettingReady :=
    ⟨hready.lamp, hready.drum⟩
  have hrest : (updJob j.number (fun j => { j with passNo := j.passNo + 1, stations := ascending ns }) s).releasedJob =
      none := by
    refine releasedJob_map rfl hs.1 fun k hk => ?_
    split_ifs <;> exact hk
  have hfind : (updJob j.number (fun j => { j with passNo := j.passNo + 1, stations := ascending ns }) s).findJob
      j.number = some { j with passNo := j.passNo + 1, stations := ascending ns } := by
    rw [findJob_map (s := s) rfl (by intro k; split_ifs <;> rfl), hj, Option.map_some, if_pos rfl]
  unfold repeatJob conclude
  rw [settle_release hready' hrest hfind, kick_none (by exact hs.2), updJob_eq]
  simp only [List.map_map]
  have hjobs : ((fun k => if k.number = j.number then { k with state := .released, pendingTrigger := false, calTried := false }
        else k) ∘ fun k : Job =>
          if k.number = j.number then { k with passNo := k.passNo + 1, stations := ascending ns } else k) =
      fun k => if k.number = j.number then
          { k with
            state := .released
            pendingTrigger := false
            calTried := false
            passNo := k.passNo + 1
            stations := ascending ns }
        else k := by
    funext k
    by_cases hk : k.number = j.number <;> simp [hk]
  rw [hjobs]
  rfl

/-- Settles O25: the checks in their order, and the job released for its next pass. -/
theorem repeatTaken : Obligations.RepeatTaken := by
  unfold Obligations.RepeatTaken
  dsimp only
  refine ⟨⟨fun args s h hform => ?form, fun w n stns s h hw hstns =>
    ⟨fun hn => ?range, fun h1 h999 hj => ?unknown, fun j h1 h999 hf c hc => ?refused⟩⟩,
    fun w n j stns s h hs hw h1 h999 hf hfin hstns hdef hnodup hpass hload hlamp hdrum => ?taken⟩
  case form =>
    exact exec_takes (.repeatPass args) h s _ (requestRepeat_illFormed (repeatForm?_none hform))
  case range =>
    exact exec_takes (.repeatPass _) h s _ (requestRepeat_range (repeatForm?_words hw hstns) hn)
  case unknown =>
    exact exec_takes (.repeatPass _) h s _
      (requestRepeat_unknown (s := s.onLink emptyBuffer) (repeatForm?_words hw hstns) h1 h999 hj)
  case refused =>
    refine exec_takes (.repeatPass _) h s _
      (requestRepeat_refused (s := s.onLink emptyBuffer) (repeatForm?_words hw hstns) h1 h999 hf ?_)
    rw [repeatRefusal_eq, ← hc]
    rfl
  case taken =>
    obtain rfl := findJob_number hf
    have hc : repeatRefusal j stns (s.onLink emptyBuffer) = none := by
      rw [repeatRefusal_eq, if_neg (not_not.mpr hfin), if_neg, if_neg (not_not.mpr hnodup), if_neg (by omega)]
      rintro ⟨k, hk, hbad⟩
      obtain ⟨h1, h16, hname⟩ := hdef k hk
      obtain hb | hb | hb := hbad
      · omega
      · omega
      · exact absurd (hname.symm.trans (congrArg Option.isSome hb)) (by decide)
    have hconclude := conclude_repeatJob (s := s.onLink emptyBuffer) hs ⟨hlamp, hdrum⟩ hf stns
    have htake := requestRepeat_taken (s := s.onLink emptyBuffer) (repeatForm?_words hw hstns) h1 h999 hf hc
    rw [hconclude] at htake
    have hwait : s.waitCauses { j with passNo := j.passNo + 1 } =
        [if s.drive.pendingStart then Cause.budget else .drum, .lamp] ++
          (if s.cal.state = .fresh then [] else [.cal]) ++
          (if s.sender.circ = .free then [] else [.circuit]) ++
          (if 0 < j.passNo ∨ s.receipts.log.length < 16 ∨ ∃ r ∈ s.receipts.log, r.reclaimable = true then []
            else [.log]) := by
      unfold State.waitCauses
      exact congrArg _ (if_congr (or_congr_left (show 1 < j.passNo + 1 ↔ 0 < j.passNo by omega)) rfl rfl)
    refine (exec_takes_posted (.repeatPass _) h htake rfl).trans ?_
    rw [← hwait, ← ascending_eq]
    rfl

/-! ### CLOCK (R185) -/

theorem requestClockSet_range {c : Nat × Nat × Nat} (hw : time? w = some c) (hd : number? d = some n)
    (hr : ¬ (timeOk c = true ∧ 1 ≤ n ∧ n ≤ 9999)) : requestClockSet [w, d] s = (s, .no .range) := by
  simp only [requestClockSet, hw, hd, if_neg hr]

theorem requestClockSet_taken {c : Nat × Nat × Nat} (hw : time? w = some c) (hd : number? d = some n)
    (hr : timeOk c = true ∧ 1 ≤ n ∧ n ≤ 9999) :
    requestClockSet [w, d] s = (setClock ⟨n, secOfDay c⟩ s, .clock (some ⟨n, secOfDay c⟩)) := by
  simp only [requestClockSet, hw, hd, if_pos hr]

/-- Settles O27: a time and a day of their ranges set the clock, others are refused. -/
theorem clockSet : Obligations.ClockSet := by
  intro w d h m sec day s ht hw hd
  dsimp only
  have hrange : timeOk (h, m, sec) = true ∧ 1 ≤ day ∧ day ≤ 9999 ↔ h ≤ 23 ∧ m ≤ 59 ∧ sec ≤ 59 ∧ 1 ≤ day ∧ day ≤ 9999 := by
    simp [timeOk, and_assoc]
  split_ifs with hr
  · exact exec_takes (.clockSet [w, d]) ht _ _ (requestClockSet_taken hw hd (hrange.mpr hr))
  · exact exec_takes (.clockSet [w, d]) ht s _ (requestClockSet_range hw hd (hrange.not.mpr hr))

end Sys2Proof.Machine
end

section
/-! PROOFS. The service of a want by the drive (R34 to R37, R45), and CAL with CAL DEFAULT (R76, R83, R84). -/

namespace Sys2Proof.Machine

variable {s : State} {v : Speed}

/-! ### The service of a want -/

/-- The lamp's part of the service of a want (R45): switched on from OFF under a closed cover. -/
def State.lampServed (s : State) (d : Drive) : Drive :=
  { d with
    lamp := if d.lamp = .off ∧ s.queue.load ≠ .coverOpen then .warming else d.lamp
    warmTimer := if d.lamp = .off ∧ s.queue.load ≠ .coverOpen then some (s.now + 60000) else d.warmTimer }

theorem lampOn_wanted (h : s.drive.wanted.isSome) : lampOn s = { s with drive := s.lampServed s.drive } := by
  unfold lampOn State.lampServed
  by_cases hl : s.drive.lamp = .off ∧ s.queue.load ≠ .coverOpen
  · rw [if_pos ⟨hl.1, coverOpen_eq_false.mpr hl.2, h⟩]
    simp only [if_pos hl]
    rfl
  · rw [if_neg fun hl' => hl ⟨hl'.1, coverOpen_eq_false.mp hl'.2.1⟩]
    simp only [if_neg hl]

/-- The drum is at rest. -/
def Drive.atRest (d : Drive) : Prop := d.drum = .parked ∨ d.drum = .coasting

theorem serveDrum_held (hd : s.drive.atRest)
    (h : s.queue.load = .coverOpen ∨ s.drive.faultHold = true ∨ s.drive.pendingStart = true) : serveDrum s = s := by
  unfold serveDrum
  split
  · rfl
  next hopen =>
    have hpending : s.drive.pendingStart = true := by
      obtain h | h | h := h
      · exact absurd (.inl (by simp [State.coverOpen, h])) hopen
      · exact absurd (.inr (.inl h)) hopen
      · exact h
    cases s.drive.wanted with
    | none => rfl
    | some w => obtain hd | hd := hd <;> simp only [hd, hpending, if_true]

/-- A wanted speed starts a drum at rest (R35), or has it wait for the budget (R37). -/
theorem serveDrum_atRest (hd : s.drive.atRest) (hc : s.queue.load ≠ .coverOpen) (hf : s.drive.faultHold = false)
    (hp : s.drive.pendingStart = false) (hcal : s.cal.state ≠ .running) (hw : s.drive.wanted = some v) :
    serveDrum s = spinUp v s := by
  have hopen : ¬ (s.coverOpen = true ∨ s.drive.faultHold = true ∨ s.cal.state = .running) := by
    simp [coverOpen_eq_false.mpr hc, hf, hcal]
  unfold serveDrum
  rw [if_neg hopen, hw]
  obtain hd | hd := hd <;> simp only [hd, hp, Bool.false_eq_true, if_false]

/-- The drive's fields as a spin-up starts (R36). -/
def Drive.spinningUp (d : Drive) (v : Speed) (young : List Moment) (now : Moment) : Drive :=
  { d with
    spinUps := young ++ [now]
    drum := .spinningUp
    target := some v
    lockedAt := none
    approach := some .spin
    lockCount := 0
    lossCount := 0
    lockTimer := some (now + 20000)
    marked := false }

theorem spinUpMoment_of_lt {now : Moment} {starts : List Moment} (h : ∀ m ∈ starts, m < now) :
    spinUpMoment now starts = now := by
  unfold spinUpMoment
  split
  · rfl
  next m hm => exact max_eq_left (h m (List.mem_of_getLast? hm))

theorem spinUp_started (h : (youngStarts s.now s.drive.spinUps).length < 6)
    (hnow : ∀ m ∈ youngStarts s.now s.drive.spinUps, m < s.now) (v : Speed) :
    spinUp v s =
      { s with
        link := s.link.posted [.drum .spinningUp (some v)]
        drive := s.drive.spinningUp v (youngStarts s.now s.drive.spinUps) s.now } := by
  unfold spinUp
  dsimp only
  rw [if_pos (by exact h), post_eq, spinUpMoment_of_lt hnow, advanceTo, max_self]
  rfl

theorem spinUp_deferred {m : Moment} {rest : List Moment} (h : youngStarts s.now s.drive.spinUps = m :: rest)
    (h6 : 6 ≤ (youngStarts s.now s.drive.spinUps).length) (v : Speed) :
    spinUp v s =
      { s with
        link := s.link.posted [.drumDefer ((m + 900000 - s.now + 999) / 1000)]
        drive := { s.drive with spinUps := youngStarts s.now s.drive.spinUps, pendingStart := true } } := by
  unfold spinUp
  dsimp only
  rw [if_neg (by exact Nat.not_lt.mpr h6), post_eq, h]
  rfl

/-! ### CAL -/

theorem requestCal_busy (h : s.anyActive = true ∨ s.cal.state = .running) :
    requestCal [] s = (s, .no .busy) ∧ requestCalDefault s = (s, .no .busy) := by
  unfold requestCal requestCalDefault
  by_cases ha : s.anyActive = true
  · simp [ha]
  · simp [ha, h.resolve_left ha]

theorem requestCal_form {args : List Text} (h : args ≠ []) : requestCal args s = (s, .no .form) := by
  cases args with
  | nil => exact absurd rfl h
  | cons => rfl

theorem requestCal_asked (ha : s.anyActive = false) (hc : s.cal.state ≠ .running) :
    requestCal [] s = (askCalibration s, .cal) := by
  simp [requestCal, ha, hc]

/-- The drive's fields as the Calibration Unit raises its want (R76), before the drum is served. -/
def State.calServed (s : State) (v : Speed) : Drive :=
  s.lampServed { s.drive with calWant := some v, idleTimer := none }

theorem askCalibration_raised (hr : s.cal.request = false) (hv : calSpeed s.drive = v) :
    askCalibration s =
      serveDrum { s with cal := { s.cal with request := true }, drive := s.calServed v } := by
  have hwanted : ({ s.drive with calWant := some v, idleTimer := none } : Drive).wanted.isSome := by
    unfold Drive.wanted
    split <;> rfl
  unfold askCalibration raiseCalWant serve
  rw [if_neg (by simp [hr]), hv]
  exact congrArg serveDrum (lampOn_wanted (s := { s with
    cal := { s.cal with request := true }
    drive := { s.drive with calWant := some v, idleTimer := none } }) hwanted)

theorem calServed_wanted (s : State) (v : Speed) : (s.calServed v).wanted = some (s.drive.queueWant.getD v) := by
  unfold Drive.wanted
  simp only [State.calServed, State.lampServed]
  cases s.drive.queueWant <;> rfl

theorem calSpeed_atRest (h : s.drive.atRest) : calSpeed s.drive = .s60 := by
  obtain h | h := h <;> simp [calSpeed, h]

theorem calSpeed_locked (h : s.drive.drum = .locked) (hv : s.drive.lockedAt = some v) : calSpeed s.drive = v := by
  simp [calSpeed, h, hv]

theorem calSpeed_approaching (h : s.drive.drum = .spinningUp ∨ s.drive.drum = .slewing ∨ s.drive.drum = .locking)
    (hv : s.drive.target = some v) : calSpeed s.drive = v := by
  obtain h | h | h := h <;> simp [calSpeed, h, hv]

/-- With the drum locked at the wanted speed or approaching it, the want is met as it stands. -/
theorem askCalibration_kept (hr : s.cal.request = false)
    (h : (s.drive.drum = .locked ∧ s.drive.lockedAt = some v ∧
        (s.drive.queueWant = none ∨ s.drive.queueWant = some v)) ∨
      (s.drive.target = some v ∧
        (s.drive.drum = .spinningUp ∨ s.drive.drum = .slewing ∨ s.drive.drum = .locking))) :
    askCalibration s = { s with cal := { s.cal with request := true }, drive := s.calServed v } := by
  obtain ⟨hd, hv, hw⟩ | ⟨hv, hd⟩ := h
  · refine (askCalibration_raised hr (calSpeed_locked hd hv)).trans (serveDrum_kept (.inr ⟨hd, ?_⟩))
    refine Eq.trans hv ((calServed_wanted s v).trans ?_).symm
    obtain hw | hw := hw <;> rw [hw] <;> rfl
  · refine (askCalibration_raised hr (calSpeed_approaching hd hv)).trans (serveDrum_kept (.inl ?_))
    obtain hd | hd | hd := hd <;> exact (congrArg DrumState.approaching hd :)

/-- Settles O26: the refusals, a request already held, the want raised by the state of the drum, and CAL DEFAULT. -/
theorem calibrationAsked : Obligations.CalibrationAsked := by
  intro s h
  refine ⟨fun hbusy => ?busy, fun args hargs => ?form, fun ha hc hr => ?held, fun ha hc hr => ?raised,
    fun hs ha hc => ?default⟩
  case busy =>
    obtain ⟨hcal, hdefault⟩ := requestCal_busy (s := s.onLink emptyBuffer) hbusy
    exact ⟨exec_takes (.cal []) h s _ hcal, exec_takes .calDefault h s _ hdefault⟩
  case form => exact exec_takes (.cal args) h s _ (requestCal_form hargs)
  case held =>
    refine exec_takes (.cal []) h s _ ((requestCal_asked (s := s.onLink emptyBuffer) ha hc).trans ?_)
    rw [askCalibration, if_pos (by exact hr)]
  case default =>
    refine exec_takes .calDefault h { s with cal := defaultCal s.cal } _ ?_
    have hconclude := conclude_resting (s := (s.onLink emptyBuffer).onCal defaultCal) hs
    simp only [ownerTakes, requestCalDefault]
    rw [if_neg (by exact ne_true_of_eq_false ha), if_neg (by exact hc), hconclude]
    rfl
  case raised =>
    have hask := requestCal_asked (s := s.onLink emptyBuffer) ha hc
    refine ⟨fun v hv => ?_, fun hrest => ⟨fun hheld => ?_, fun hopen hfault hpending =>
      ⟨fun hyoung hnow => ?_, fun m rest hyoung h6 => ?_⟩⟩⟩
    · exact exec_takes (.cal []) h { s with cal := _, drive := s.calServed v } _
        (hask.trans (by rw [askCalibration_kept (s := s.onLink emptyBuffer) hr hv]; rfl))
    all_goals
      have hraised := askCalibration_raised (s := s.onLink emptyBuffer) hr (calSpeed_atRest hrest)
    · refine exec_takes (.cal []) h { s with cal := _, drive := s.calServed .s60 } _ (hask.trans ?_)
      rw [hraised, serveDrum_held (by exact hrest) (by exact hheld)]
      rfl
    all_goals
      rw [serveDrum_atRest (by exact hrest) (by exact hopen) (by exact hfault) (by exact hpending) (by exact hc)
        (calServed_wanted _ .s60)] at hraised
    · rw [hraised, spinUp_started (by exact hyoung) (by exact hnow)] at hask
      exact (exec_takes_posted (.cal []) h hask rfl).trans rfl
    · rw [hraised, spinUp_deferred (by exact hyoung) (by exact h6)] at hask
      exact (exec_takes_posted (.cal []) h hask rfl).trans rfl

end Sys2Proof.Machine
end

section
/-! PROOFS. The printer (R160, R162, R163): SLIP by its checks, the lines and copies of a slip, the paper sense. -/

namespace Sys2Proof.Machine

variable {s : State} {args : List Text} {w v : Text} {n p : Nat} {r : Record} {e : PassEntry} {c : PassClose}
  {x : SlipEntry} {rest : List SlipEntry} {pr : Printing}

/-! ### The step of an event with main power present -/

theorem exec_finish {i : Instr} {f : State → State} (hi : exec i s = live (fun s => finish (f s)) s)
    (h : s.powered = true) : exec i s = .next (finish (f s)) := hi.trans (live_on _ h)

theorem exec_pump {i : Instr} {f : State → State} (hi : exec i s = live (fun s => pump (f s)) s)
    (h : s.powered = true) : exec i s = .next (pump (f s)) := hi.trans (live_on _ h)

/-! ### The slip state of a pass -/

/-- The log with the slip of one pass in another state. -/
def slipSet (n p : Nat) (st : SlipState) (log : List Record) : List Record :=
  log.map fun r =>
    if r.job = n then
      { r with passes := r.passes.map fun e =>
          if e.number = p then { e with close := e.close.map fun c => { c with slip := st } } else e }
    else r

theorem setSlip_eq (n p : Nat) (st : SlipState) (s : State) :
    setSlip n p st s = { s with receipts := { s.receipts with log := slipSet n p st s.receipts.log } } := rfl

theorem slipSet_slipSet (n p : Nat) (a b : SlipState) (log : List Record) :
    slipSet n p b (slipSet n p a log) = slipSet n p b log := by
  unfold slipSet
  rw [List.map_map]
  refine List.map_congr_left fun r _ => ?_
  by_cases hr : r.job = n
  · simp only [Function.comp_apply, if_pos hr, List.map_map]
    congr 1
    refine List.map_congr_left fun e _ => ?_
    by_cases he : e.number = p
    · simp [he, Function.comp_def]
    · simp [he]
  · simp [hr]

theorem composeSlip_of (hr : s.findRecord x.job = some r) (he : r.findPass x.pass = some e) (hc : e.close = some c) :
    composeSlip x s = slipLines s.settings.bureau x.reprint r e c := by
  simp only [composeSlip, hr, he, hc]

/-- The slip's text does not depend on the slip's state. -/
theorem composeSlip_setSlip (st : SlipState) (hr : s.findRecord x.job = some r) (he : r.findPass x.pass = some e)
    (hc : e.close = some c) :
    composeSlip x (setSlip x.job x.pass st s) = slipLines s.settings.bureau x.reprint r e c := by
  have hjob : r.job = x.job := by simpa using List.find?_some hr
  have hpass : e.number = x.pass := by simpa using List.find?_some he
  have hrecord : (setSlip x.job x.pass st s).findRecord x.job =
      some { r with passes := r.passes.map fun e =>
        if e.number = x.pass then { e with close := e.close.map fun c => { c with slip := st } } else e } := by
    have hmap : (setSlip x.job x.pass st s).findRecord x.job = (s.findRecord x.job).map fun r =>
        if r.job = x.job then
          { r with passes := r.passes.map fun e =>
              if e.number = x.pass then { e with close := e.close.map fun c => { c with slip := st } } else e }
        else r := by
      refine (List.find?_map ..).trans (congrArg (Option.map _) (congrArg (fun q => s.receipts.log.find? q) ?_))
      funext r
      by_cases h : r.job = x.job <;> simp [h]
    rw [hmap, hr, Option.map_some, if_pos hjob]
  have hentry : ({ r with passes := r.passes.map fun e =>
        if e.number = x.pass then { e with close := e.close.map fun c => { c with slip := st } } else e } :
          Record).findPass x.pass = some { e with close := some { c with slip := st } } := by
    have hmap : ({ r with passes := r.passes.map fun e =>
        if e.number = x.pass then { e with close := e.close.map fun c => { c with slip := st } } else e } :
          Record).findPass x.pass = (r.findPass x.pass).map fun e =>
            if e.number = x.pass then { e with close := e.close.map fun c => { c with slip := st } } else e := by
      refine (List.find?_map ..).trans (congrArg (Option.map _) (congrArg (fun q => r.passes.find? q) ?_))
      funext e
      by_cases h : e.number = x.pass <;> simp [h]
    rw [hmap, he, Option.map_some, if_pos hpass, hc, Option.map_some]
  rw [composeSlip_of hrecord hentry rfl]
  rfl

/-- The receipts as a slip of the given lines begins. -/
def Receipts.printingOf (c : Receipts) (x : SlipEntry) (lines : List Text) (now : Moment) : Receipts :=
  { c with
    log := slipSet x.job x.pass .printing c.log
    printer := .printing
    printing := some ⟨lines, now + 300⟩ }

theorem beginSlip_eq (x : SlipEntry) (s : State) :
    beginSlip x s = { s with receipts := s.receipts.printingOf x (composeSlip x s) s.now } := rfl

theorem kick_ready (hp : s.receipts.printer = .ready) (hs : s.receipts.slips = x :: rest) : kick s = beginSlip x s := by
  unfold kick
  rw [hp, hs]

/-! ### SLIP (R160) -/

theorem slipForm?_form (h : 2 < args.length ∨ ∃ w ∈ args, ¬ isNumber w) : slipForm? args = none := by
  match args with
  | [] => rfl
  | [w] =>
    obtain ⟨u, hu, hn⟩ := h.resolve_left (by simp)
    obtain rfl := List.mem_singleton.mp hu
    simp [slipForm?, number?_of_not_isNumber hn]
  | [w, v] =>
    obtain ⟨u, hu, hn⟩ := h.resolve_left (by simp)
    refine Option.eq_none_iff_forall_ne_some.mpr fun f hf => ?_
    unfold slipForm? at hf
    simp only at hf
    split at hf
    next hw hv =>
      obtain rfl | rfl : u = w ∨ u = v := by simpa using hu
      · exact hn (isNumber_of_number? hw)
      · exact hn (isNumber_of_number? hv)
    next => cases hf
  | _ :: _ :: _ :: _ => rfl

theorem slipForm?_latest (hw : number? w = some n) : slipForm? [w] = some (n, none) := by
  simp [slipForm?, hw]

theorem slipForm?_named (hw : number? w = some n) (hv : number? v = some p) : slipForm? [w, v] = some (n, some p) := by
  simp only [slipForm?, hw, hv]

theorem slipRange_latest : slipRange n none = true ↔ 1 ≤ n ∧ n ≤ 999 := by
  simp [slipRange]

theorem slipRange_named : slipRange n (some p) = true ↔ 1 ≤ n ∧ n ≤ 999 ∧ 1 ≤ p ∧ p ≤ 4 := by
  simp [slipRange, and_assoc]

theorem requestSlip_form (h : slipForm? args = none) : requestSlip args s = (s, .no .form) := by
  simp only [requestSlip, h]

theorem requestSlip_range {q : Option Nat} (h : slipForm? args = some (n, q)) (hr : ¬ slipRange n q = true) :
    requestSlip args s = (s, .no .range) := by
  simp only [requestSlip, h, if_neg hr]

theorem requestSlip_unknown {q : Option Nat} (h : slipForm? args = some (n, q)) (hr : slipRange n q = true)
    (hn : ((s.findRecord n).bind fun r => r.namedPass q) = none) : requestSlip args s = (s, .no .unknown) := by
  simp only [requestSlip, h, if_pos hr, hn]

theorem requestSlip_asked {q : Option Nat} (h : slipForm? args = some (n, q)) (hr : slipRange n q = true)
    (hn : ((s.findRecord n).bind fun r => r.namedPass q) = some e) : requestSlip args s = askCopy n e s := by
  simp only [requestSlip, h, if_pos hr, hn]

theorem askCopy_inProgress (h : e.close = none) : askCopy n e s = (s, .no .state) := by
  simp [askCopy, PassEntry.inProgress, h]

theorem askCopy_more (h : e.close.isSome) (hx : s.slipEntry n e.number = some x) (hc : x.copies < 9) :
    askCopy n e s = (addCopy n e.number s, .slip n e.number (x.copies + 1)) := by
  have hp : e.inProgress = false := by simpa [PassEntry.inProgress, Option.isSome_iff_ne_none] using h
  simp only [askCopy, hp, Bool.false_eq_true, if_false, hx, if_pos hc]

theorem askCopy_full (h : e.close.isSome) (hx : s.slipEntry n e.number = some x) (hc : ¬ x.copies < 9) :
    askCopy n e s = (s, .no .full) := by
  have hp : e.inProgress = false := by simpa [PassEntry.inProgress, Option.isSome_iff_ne_none] using h
  simp only [askCopy, hp, Bool.false_eq_true, if_false, hx, if_neg hc]

theorem askCopy_new (h : e.close.isSome) (hx : ∀ x ∈ s.receipts.slips, ¬ (x.job = n ∧ x.pass = e.number)) :
    askCopy n e s = (conclude (newSlip n e.number s), .slip n e.number 1) := by
  have hp : e.inProgress = false := by simpa [PassEntry.inProgress, Option.isSome_iff_ne_none] using h
  have hnone : s.slipEntry n e.number = none := by simpa [State.slipEntry] using hx
  simp only [askCopy, hp, Bool.false_eq_true, if_false, hnone]

/-- The receipts with a new entry of one copy. -/
theorem newSlip_eq (n p : Nat) (s : State) :
    newSlip n p s =
      { s with
        receipts :=
          { s.receipts with
            slips := s.receipts.slips ++ [⟨n, p, 1, false⟩]
            log := slipSet n p .pending s.receipts.log } } := rfl

theorem conclude_newSlip_waits (hr : s.releasedJob = none) (hp : s.receipts.printer ≠ .ready) :
    conclude (newSlip n p s) = newSlip n p s :=
  conclude_resting ⟨hr, fun h => absurd h hp⟩

/-- With the printer READY and no entry waiting the new one begins. -/
theorem conclude_newSlip_begins (hs : s.resting) (hp : s.receipts.printer = .ready) (hr : s.findRecord n = some r)
    (he : r.findPass p = some e) (hc : e.close = some c) :
    conclude (newSlip n p s) =
      { s with
        receipts :=
          { s.receipts with
            slips := [⟨n, p, 1, false⟩]
            log := slipSet n p .printing s.receipts.log
            printer := .printing
            printing := some ⟨slipLines s.settings.bureau false r e c, s.now + 300⟩ } } := by
  have hslips : (newSlip n p s).receipts.slips = ⟨n, p, 1, false⟩ :: [] := by
    rw [newSlip_eq, hs.2 hp]
    rfl
  have hlines : composeSlip ⟨n, p, 1, false⟩ (newSlip n p s) = slipLines s.settings.bureau false r e c :=
    composeSlip_setSlip (x := ⟨n, p, 1, false⟩) .pending hr he hc
  rw [conclude, settle_none (by exact hs.1), kick_ready (by exact hp) hslips, beginSlip_eq, hlines]
  simp only [Receipts.printingOf, newSlip_eq, slipSet_slipSet, hs.2 hp, List.nil_append]

theorem requestSlip_named (hw : number? w = some n) (h1 : 1 ≤ n) (h999 : n ≤ 999) (hr : s.findRecord n = some r)
    (hp : r.findPass p = some e)
    (hargs : (args = [w] ∧ r.passes.getLast? = some e) ∨ ∃ v, args = [w, v] ∧ number? v = some p ∧ 1 ≤ p ∧ p ≤ 4) :
    requestSlip args s = askCopy n e s := by
  obtain ⟨rfl, hlast⟩ | ⟨v, rfl, hv, hp1, hp4⟩ := hargs
  · exact requestSlip_asked (slipForm?_latest hw) (slipRange_latest.mpr ⟨h1, h999⟩) (by rw [hr]; exact hlast)
  · exact requestSlip_asked (slipForm?_named hw hv) (slipRange_named.mpr ⟨h1, h999, hp1, hp4⟩) (by rw [hr]; exact hp)

/-- Settles O28: the checks of SLIP in their order, one more copy, and a new entry that may begin at once. -/
theorem slipCopyAsked : Obligations.SlipCopyAsked := by
  unfold Obligations.SlipCopyAsked
  dsimp only
  refine ⟨⟨fun args s h hform => ?form, fun w n s h hw => ⟨fun hn => ?range, fun h1 h999 hj => ?unknown,
    fun v p hv => ⟨fun hn => ?rangeNamed, fun h1 h999 hp1 hp4 hno => ?unknownNamed⟩⟩⟩,
    fun args w n p r e s h hw h1 h999 hr he hargs => ?asked⟩
  case form => exact exec_takes (.slipRequest args) h s _ (requestSlip_form (slipForm?_form hform))
  case range =>
    exact exec_takes (.slipRequest _) h s _ (requestSlip_range (slipForm?_latest hw) (slipRange_latest.not.mpr hn))
  case unknown =>
    have hnone : s.findRecord n = none := by simpa [State.findRecord] using hj
    exact exec_takes (.slipRequest _) h s _ (requestSlip_unknown (s := s.onLink emptyBuffer) (slipForm?_latest hw)
      (slipRange_latest.mpr ⟨h1, h999⟩) (by exact congrArg (fun o : Option Record => o.bind _) hnone))
  case rangeNamed =>
    exact exec_takes (.slipRequest _) h s _ (requestSlip_range (slipForm?_named hw hv) (slipRange_named.not.mpr hn))
  case unknownNamed =>
    refine exec_takes (.slipRequest _) h s _ (requestSlip_unknown (s := s.onLink emptyBuffer) (slipForm?_named hw hv)
      (slipRange_named.mpr ⟨h1, h999, hp1, hp4⟩) ?_)
    refine Option.bind_eq_none_iff.mpr fun r hr => ?_
    simpa [Record.namedPass, Record.findPass] using hno r hr
  case asked =>
    have htake := requestSlip_named (s := s.onLink emptyBuffer) hw h1 h999 hr he hargs
    obtain rfl : e.number = p := by simpa using List.find?_some he
    refine ⟨fun hclose => ?_, fun x hclose hx => ?_, fun c hs hclose hno => ⟨fun hp => ?_, fun hp => ?_⟩⟩
    · exact exec_takes (.slipRequest args) h s _ (htake.trans (askCopy_inProgress hclose))
    · split_ifs with hcopies
      · exact exec_takes (.slipRequest args) h (addCopy n e.number s) _
          (htake.trans (askCopy_more (s := s.onLink emptyBuffer) hclose hx hcopies))
      · exact exec_takes (.slipRequest args) h s _
          (htake.trans (askCopy_full (s := s.onLink emptyBuffer) hclose hx hcopies))
    all_goals
      have hnew := htake.trans (askCopy_new (s := s.onLink emptyBuffer) (by rw [hclose]; rfl) hno)
    · rw [conclude_newSlip_waits (s := s.onLink emptyBuffer) hs.1 hp] at hnew
      exact exec_takes (.slipRequest args) h (newSlip n e.number s) _ hnew
    · rw [conclude_newSlip_begins (s := s.onLink emptyBuffer) hs hp hr he hclose] at hnew
      exact exec_takes (.slipRequest args) h _ _ hnew

/-! ### The lines of a slip (R162) and the paper sense (R163) -/

theorem slipLineDone_next {a b : Text} {more : List Text} (hpr : s.receipts.printing = some pr)
    (hrest : pr.rest = a :: b :: more) :
    slipLineDone s =
      { s with
        now := max s.now pr.lineEnds
        receipts := { s.receipts with printing := some ⟨b :: more, pr.lineEnds + 300⟩ } } := by
  simp only [slipLineDone, hpr, hrest]
  rfl

theorem slipLineDone_last {a : Text} (hpr : s.receipts.printing = some pr) (hrest : pr.rest = [a]) :
    slipLineDone s = copyDone (advanceTo pr.lineEnds s) := by
  simp only [slipLineDone, hpr, hrest]

theorem copyDone_more (hs : s.receipts.slips = x :: rest) (hc : 1 < x.copies) :
    copyDone s =
      beginSlip { x with copies := x.copies - 1, reprint := false }
        (s.onReceipts fun c => { c with slips := { x with copies := x.copies - 1, reprint := false } :: rest }) := by
  simp only [copyDone, hs, if_pos hc]

theorem copyDone_only (hs : s.receipts.slips = [x]) (hc : x.copies ≤ 1) :
    copyDone s =
      { s with
        link := s.link.posted [.slip x.job x.pass]
        receipts :=
          { s.receipts with
            log := slipSet x.job x.pass .printed s.receipts.log
            slips := []
            printer := .ready
            printing := none } } := by
  simp only [copyDone, hs, if_neg (Nat.not_lt.mpr hc), post_eq]
  rw [kick_none fun _ => rfl]
  rfl

theorem finish_printing (hr : s.releasedJob = none) (hp : s.receipts.printer ≠ .ready) :
    finish s = { s with link := s.link.pumped } :=
  finish_resting ⟨hr, fun h => absurd h hp⟩

theorem paperOut_ready (h : s.receipts.printer = .ready) :
    paperOut s =
      { s with
        link := s.link.posted [.paperOut]
        receipts := { s.receipts with printer := .paperOut, paperPresent := false } } := by
  simp only [paperOut, h, post_eq]
  rfl

theorem paperOut_printing (h : s.receipts.printer = .printing) (hs : s.receipts.slips = x :: rest) :
    paperOut s =
      { s with
        link := s.link.posted [.paperOut]
        receipts :=
          { log := slipSet x.job x.pass .pending s.receipts.log
            slips := { x with reprint := true } :: rest
            printer := .paperOut
            paperPresent := false
            printing := none } } := by
  simp only [paperOut, h, post_eq, cutSlip, hs]
  rfl

theorem paperOut_again (h : s.receipts.printer = .paperOut) : paperOut s = s := by
  simp only [paperOut, h]

theorem paperIn_loaded (h : s.receipts.printer = .paperOut) :
    paperIn s =
      kick
        { s with
          link := s.link.posted [.paperIn]
          receipts := { s.receipts with printer := .ready, paperPresent := true } } := by
  simp only [paperIn, h, post_eq]
  rfl

theorem paperIn_ignored (h : s.receipts.printer ≠ .paperOut) : paperIn s = s := by
  unfold paperIn
  split
  · exact absurd ‹_› h
  · rfl
  · rfl

/-- Settles O51: the lines and copies of a slip, and the paper sense by the state of the printer. -/
theorem slipsPrinted : Obligations.SlipsPrinted := by
  unfold Obligations.SlipsPrinted
  dsimp only
  refine ⟨fun s pr x rest hon hr hp hpr hs => ⟨fun a b more hrest => ?line, fun a hrest hc => ?copy,
    fun a hrest hc hone => ?last⟩, fun s hon => ⟨fun hp => ?outReady, fun x rest hp hs => ?outPrinting,
      fun hp => ⟨?outAgain, fun hs => ?inIdle, fun x rest hs => ?inBegins⟩, fun hp => ?inIgnored⟩⟩
  case line =>
    refine (exec_finish (f := slipLineDone) rfl hon).trans (congrArg _ ?_)
    rw [slipLineDone_next hpr hrest, finish_printing (by exact hr) (by simp [hp])]
  case copy =>
    refine ⟨composeSlip { x with copies := x.copies - 1, reprint := false } s, _, exec_finish (f := slipLineDone) rfl hon, ?_⟩
    rw [slipLineDone_last hpr hrest, copyDone_more (by exact hs) hc, beginSlip_eq,
      finish_printing (by exact hr) (by simp [Receipts.printingOf])]
    exact ⟨rfl, rfl, rfl, fun r q c hrec hpass hclose =>
      composeSlip_of (x := { x with copies := x.copies - 1, reprint := false }) hrec hpass hclose⟩
  case last =>
    subst hone
    refine (exec_finish (f := slipLineDone) rfl hon).trans (congrArg _ ?_)
    rw [slipLineDone_last hpr hrest, copyDone_only (by exact hs) hc, finish_resting (by exact ⟨hr, fun _ => rfl⟩)]
    rfl
  case outReady =>
    refine (exec_pump (f := paperOut) rfl hon).trans (congrArg _ ?_)
    rw [paperOut_ready hp, pump_eq]
  case outPrinting =>
    refine (exec_pump (f := paperOut) rfl hon).trans (congrArg _ ?_)
    rw [paperOut_printing hp hs, pump_eq]
    rfl
  case outAgain =>
    refine (exec_pump (f := paperOut) rfl hon).trans (congrArg _ ?_)
    rw [paperOut_again hp, pump_eq]
  case inIdle =>
    refine (exec_pump (f := paperIn) rfl hon).trans (congrArg _ ?_)
    rw [paperIn_loaded hp, kick_none (by exact fun _ => hs), pump_eq]
  case inBegins =>
    have hin : paperIn s = beginSlip x _ := (paperIn_loaded hp).trans (kick_ready rfl (by exact hs))
    rw [beginSlip_eq] at hin
    exact ⟨_, _, (exec_pump (f := paperIn) rfl hon).trans (congrArg _ ((congrArg pump hin).trans (pump_eq _))), rfl, rfl,
      hs, rfl, rfl⟩
  case inIgnored =>
    refine (exec_pump (f := paperIn) rfl hon).trans (congrArg _ ?_)
    rw [paperIn_ignored hp, pump_eq]

end Sys2Proof.Machine
end

section
/-! PROOFS. The tone computation (R57 to R59): normalised values, tone codes and frequencies within their bounds; the
seconds of the day clock and the release test that follows them (R14, R184). -/

namespace Sys2Proof.Machine

/-- The normalised value lies in 0 to 1023 and grows from the black reference to the white one. -/
theorem normalise_bounds {wr br : Nat} (x : Nat) (h : br + 1024 ≤ wr) :
    normalise wr br x ≤ 1023 ∧ (x ≤ br → normalise wr br x = 0) ∧ (wr ≤ x → normalise wr br x = 1023) ∧
      (br ≤ x → x ≤ wr → normalise wr br x = ((x - br) * 1023 + (wr - br) / 2) / (wr - br)) := by
  unfold normalise
  have hd : 0 < wr - br := by omega
  refine ⟨?_, fun hx => ?_, fun hx => ?_, fun hb hw => ?_⟩
  · refine Nat.lt_succ_iff.mp ((Nat.div_lt_iff_lt_mul hd).mpr ?_)
    have hc : min (max x br) wr - br ≤ wr - br := by omega
    generalize min (max x br) wr - br = c at *
    generalize wr - br = d at *
    omega
  · refine Nat.div_eq_of_lt ?_
    omega
  · refine (Nat.div_eq_iff hd).mpr ?_
    have hc : min (max x br) wr - br = wr - br := by omega
    rw [hc]
    generalize wr - br = d at *
    omega
  · have hc : min (max x br) wr - br = x - br := by omega
    simp only [hc]

/-- Rounded interpolation between two points stays between them. -/
theorem interpolate_between (a b : Nat) {k d r : Nat} (hk : k ≤ d) (hr : r < d) :
    (min a b : Int) ≤ a + (((b : Int) - a) * k + r) / d ∧ (a : Int) + (((b : Int) - a) * k + r) / d ≤ max a b := by
  have hd : (0 : Int) < d := by omega
  have hk' : (k : Int) ≤ d := by exact_mod_cast hk
  have hr' : (r : Int) < d := by exact_mod_cast hr
  have hk0 : (0 : Int) ≤ k := by positivity
  have hr0 : (0 : Int) ≤ r := by positivity
  obtain hab | hab := le_total a b
  · have hba : (0 : Int) ≤ (b : Int) - a := by omega
    have hlow : 0 ≤ (((b : Int) - a) * k + r) / d := Int.ediv_nonneg (by positivity) hd.le
    have hhigh : (((b : Int) - a) * k + r) / d < (b : Int) - a + 1 := by
      refine Int.ediv_lt_of_lt_mul hd ?_
      nlinarith [mul_le_mul_of_nonneg_left hk' hba]
    omega
  · have hba : 0 ≤ (a : Int) - b := by omega
    have hlow : (b : Int) - a ≤ (((b : Int) - a) * k + r) / d := by
      refine (Int.le_ediv_iff_mul_le hd).mpr ?_
      nlinarith [mul_le_mul_of_nonneg_left hk' hba]
    have hhigh : (((b : Int) - a) * k + r) / d < 1 := by
      refine Int.ediv_lt_of_lt_mul hd ?_
      nlinarith [mul_nonneg hba hk0]
    omega

/-- The integer a tone code or a frequency is computed as is not negative, so that nothing is cut off. -/
theorem toNat_interpolated (a b : Nat) {k d r : Nat} (hk : k ≤ d) (hr : r < d) :
    (((a : Int) + (((b : Int) - a) * k + r) / d).toNat : Int) = a + (((b : Int) - a) * k + r) / d := by
  have hlow := (interpolate_between a b hk hr).1
  exact Int.toNat_of_nonneg (by omega)

theorem toneCode_between (curve : List Nat) (n : Nat) :
    (toneCode curve n : Int) =
        curve.getD (n / 64) 0 +
          (((curve.getD (n / 64 + 1) 0 : Int) - curve.getD (n / 64) 0) * (n % 64 : Nat) + 32) / 64 ∧
      min (curve.getD (n / 64) 0) (curve.getD (n / 64 + 1) 0) ≤ toneCode curve n ∧
      toneCode curve n ≤ max (curve.getD (n / 64) 0) (curve.getD (n / 64 + 1) 0) := by
  have hk : n % 64 ≤ 64 := by omega
  have hexact := toNat_interpolated (curve.getD (n / 64) 0) (curve.getD (n / 64 + 1) 0) (r := 32) hk (by omega)
  obtain ⟨hlow, hhigh⟩ := interpolate_between (curve.getD (n / 64) 0) (curve.getD (n / 64 + 1) 0) (r := 32) hk (by omega)
  have hcode : (toneCode curve n : Int) = _ := hexact
  refine ⟨hexact, ?_, ?_⟩
  · exact_mod_cast hcode ▸ hlow
  · exact_mod_cast hcode ▸ hhigh

theorem toneFrequency_between (fw fb : Nat) {c : Nat} (hc : c ≤ 255) :
    (toneFrequency fw fb c : Int) = fw + (((fb : Int) - fw) * c * 2 + 255) / 510 ∧
      min fw fb ≤ toneFrequency fw fb c ∧ toneFrequency fw fb c ≤ max fw fb := by
  have htwice : ((fb : Int) - fw) * (c * 2 : Nat) = ((fb : Int) - fw) * c * 2 := by push_cast; ring
  have hexact := toNat_interpolated fw fb (k := c * 2) (d := 510) (r := 255) (by omega) (by omega)
  obtain ⟨hlow, hhigh⟩ := interpolate_between fw fb (k := c * 2) (d := 510) (r := 255) (by omega) (by omega)
  rw [htwice] at hexact hlow hhigh
  have hfreq : (toneFrequency fw fb c : Int) = _ := hexact
  refine ⟨hexact, ?_, ?_⟩
  · exact_mod_cast hfreq ▸ hlow
  · exact_mod_cast hfreq ▸ hhigh

theorem toneFrequency_white (fw fb : Nat) : toneFrequency fw fb 0 = fw := by
  simp [toneFrequency]

theorem toneFrequency_black (fw fb : Nat) : toneFrequency fw fb 255 = fb := by
  have h := (toneFrequency_between fw fb (c := 255) le_rfl).1
  omega

/-- Settles O43: each of the three formulas with its bounds. -/
theorem toneComputation : Obligations.ToneComputation :=
  ⟨fun _ _ x h _ => normalise_bounds x h, fun curve n _ _ => toneCode_between curve n, fun fw fb _ hc => by
    obtain ⟨hexact, hlow, hhigh⟩ := toneFrequency_between fw fb hc
    exact ⟨hexact, hlow, hhigh, toneFrequency_white fw fb, toneFrequency_black fw fb⟩⟩

/-! ### The day clock (R184) and the release test (R14) -/

section Clock
variable {s : State} {c : DayTime} {j : Job}

/-- The state a second later. -/
def State.aSecondLater (s : State) (c : DayTime) : State :=
  { s with
    now := max s.now s.backup.secondEnds
    backup := { s.backup with clock := some (tickClock c), secondEnds := s.backup.secondEnds + 1000 } }

theorem advanceClock_eq (c : DayTime) (s : State) : advanceClock c s = s.aSecondLater c := rfl

theorem exec_secondEvent_unset (hc : s.backup.clock = none) : exec .secondEvent s = .next s := by
  have h : secondEvent s = s := by simp only [secondEvent, hc]
  exact congrArg Host.Outcome.next h

theorem exec_secondEvent_dark (hc : s.backup.clock = some c) (hoff : s.powered = false) :
    exec .secondEvent s = .next (if s.backup.latch then s else s.aSecondLater c) := by
  have h : secondEvent s = if s.backup.latch then s else s.aSecondLater c := by
    simp only [secondEvent, hc, hoff, Bool.false_eq_true, if_false, advanceClock_eq]
  exact congrArg Host.Outcome.next h

theorem exec_secondEvent_on (hc : s.backup.clock = some c) (hon : s.powered = true) :
    exec .secondEvent s = .next (finish (releaseTest (s.aSecondLater c))) := by
  have h : secondEvent s = finish (releaseTest (s.aSecondLater c)) := by
    simp only [secondEvent, hc, hon, if_true, advanceClock_eq]
  exact congrArg Host.Outcome.next h

theorem releaseTest_none (h : ∀ j, s.mountedJob = some j → j.state = .mounted → ∀ r, j.release = some r →
    reached s.backup.clock r = false) : releaseTest s = s := by
  unfold releaseTest
  split
  · rfl
  next j hj =>
    refine if_neg fun ⟨hm, ht⟩ => ?_
    unfold State.timeReached at ht
    split at ht
    · cases ht
    next r hr => rw [h j hj hm r hr] at ht; cases ht

theorem releaseTest_reached {r : DayTime} (hj : s.mountedJob = some j) (hm : j.state = .mounted)
    (hr : j.release = some r) (ht : reached s.backup.clock r = true) : releaseTest s = release .time j s := by
  simp [releaseTest, hj, hm, State.timeReached, hr, ht]

theorem finish_release (h : s.GettingReady) (hs : s.resting) (hj : s.findJob j.number = some j) (why : ReleaseCause) :
    finish (release why j s) =
      { s with
        link := (s.link.posted [.release j.number why, .wait j.number (s.waitCauses j)]).pumped
        queue :=
          { s.queue with
            missing := s.waitCauses j
            jobs := s.queue.jobs.map fun k =>
              if k.number = j.number then { k with state := .released, pendingTrigger := false, calTried := false }
              else k }
        drive := { s.drive with queueWant := some j.speed, idleTimer := none } } := by
  rw [finish, conclude, settle_release h hs.1 hj, kick_none (by exact hs.2), pump_eq]

theorem waitCauses_drum_lamp (hp : s.drive.pendingStart = false) (hcal : s.cal.state = .fresh)
    (hfree : s.sender.circ = .free) (hlog : s.receipts.log.length < 16) (j : Job) : s.waitCauses j = [.drum, .lamp] := by
  simp [State.waitCauses, hp, hcal, hfree, hlog]

theorem reached_iff (c r : DayTime) : reached (some c) r = true ↔
    ¬ (r.day = 1 ∧ c.day = 9999) ∧ (r.day < c.day ∨ (r.day = c.day ∧ r.sec ≤ c.sec)) := by
  simp [reached, -not_and, not_and_or]

/-- Settles O52: the clock by its state and the supply, and the job whose time is reached released. -/
theorem secondPasses : Obligations.SecondPasses := by
  unfold Obligations.SecondPasses
  dsimp only
  refine ⟨fun s => ⟨fun hc => ?unset, fun c hc => ⟨fun hoff => ?dark, fun hon hs hno => ?noRelease,
    fun j r hon hs hj hm hf hr ht hload hlamp hdrum hp hcal hfree hlog => ?released⟩⟩, fun r => ⟨rfl, fun c => reached_iff c r⟩⟩
  case unset => exact exec_secondEvent_unset hc
  case dark => exact exec_secondEvent_dark hc hoff
  case noRelease =>
    refine (exec_secondEvent_on hc hon).trans (congrArg _ ?_)
    rw [releaseTest_none (by exact hno), finish_resting (by exact hs)]
    rfl
  case released =>
    refine (exec_secondEvent_on hc hon).trans (congrArg _ ?_)
    have hcauses : (s.aSecondLater c).waitCauses j = [.drum, .lamp] := waitCauses_drum_lamp hp hcal hfree hlog j
    rw [releaseTest_reached (by exact hj) hm hr (by exact ht),
      finish_release (by exact ⟨hlamp, hdrum⟩) (by exact hs) (by exact hf), hcauses]
    rfl

end Clock

end Sys2Proof.Machine
end

section
/-! PROOFS. The supply (R166, R182, R183, R187): loss of main power, power-up with the log and the slips that are kept
or lost, the battery monitor and the retention latch. -/

namespace Sys2Proof.Machine

variable {s : State} {pins : PowerPins} {e : PassEntry} {c : PassClose} {x : SlipEntry} {rest : List SlipEntry}

/-! ### The battery monitor (R182) -/

/-- The report of a battery reading. -/
def batteryReports : Battery → List Report
  | .good => []
  | .low => [.batteryLow]
  | .failed => [.batteryFailed]

theorem postBattery_eq (b : Battery) (s : State) : postBattery b s = { s with link := s.link.posted (batteryReports b) } := by
  cases b with
  | good => simp only [postBattery, batteryReports, posted_nil]
  | low => exact post_eq ..
  | failed => exact post_eq ..

theorem exec_batteryChange_on (b : Battery) (h : s.powered = true) :
    exec (.batteryChange b) s =
      .next
        { s with
          link := (s.link.posted (if b = s.backup.battery then [] else batteryReports b)).pumped
          backup := { s.backup with battery := b } } := by
  refine (congrArg Host.Outcome.next (if_pos h)).trans (congrArg _ ?_)
  unfold batteryChange
  by_cases hb : b = s.backup.battery
  · rw [if_pos hb, if_pos hb, posted_nil, pump_eq, hb]
  · rw [if_neg hb, if_neg hb, postBattery_eq, pump_eq]
    rfl

theorem exec_batteryChange_off (b : Battery) (h : s.powered = false) :
    exec (.batteryChange b) s = .next { s with backup := { s.backup with battery := b } } :=
  congrArg Host.Outcome.next (if_neg (ne_true_of_eq_false h))

/-! ### The log and the slips that are kept (R166) -/

/-- A pass as power-up leaves it with the latch clear. -/
def PassEntry.kept (clock : Option DayTime) (e : PassEntry) : PassEntry := unprintPass (interruptPass clock 1 e)

theorem PassEntry.kept_inProgress (clock : Option DayTime) (h : e.close = none) :
    e.kept clock =
      { e with
        close :=
          some
            { stamp := clock
              outcome := .interrupted
              reason := some .power
              secondary := none
              counts := none
              slip := .pending
              results := e.stations.map fun n => ⟨n, none, none, none⟩ } } := by
  simp only [PassEntry.kept, interruptPass, PassEntry.inProgress, h, unprintPass]
  rfl

theorem PassEntry.kept_closed (clock : Option DayTime) (h : e.close = some c) :
    e.kept clock = { e with close := some { c with slip := if c.slip = .printing then .pending else c.slip } } := by
  simp [PassEntry.kept, interruptPass, PassEntry.inProgress, h, unprintPass]

theorem interruptedEntries_eq (r : Record) :
    interruptedEntries 1 r = (r.passes.filter fun e => e.close.isNone).map fun e => ⟨r.job, e.number, 1, false⟩ := by
  rw [List.map_eq_flatMap]
  rfl

theorem isPrinting_iff (log : List Record) (x : SlipEntry) :
    isPrinting log x = true ↔
      ∃ r ∈ log, r.job = x.job ∧ ∃ e ∈ r.passes, e.number = x.pass ∧ (e.close.map (·.slip)) = some .printing := by
  simp only [isPrinting, List.any_eq_true, Bool.and_eq_true, beq_iff_eq]
  refine exists_congr fun r => and_congr_right fun _ => and_congr_right fun _ => exists_congr fun e =>
    and_congr_right fun _ => and_congr_right fun _ => ?_
  cases e.close with
  | none => exact ⟨nofun, nofun⟩
  | some c => simp

/-- The log with every record closed and every pass settled. -/
def keptLog (clock : Option DayTime) (log : List Record) : List Record :=
  log.map fun r => { r with isOpen := false, passes := r.passes.map (PassEntry.kept clock) }

/-- The slip queue with the cut entry marked and an entry for each interrupted pass. -/
def keptSlips (c : Receipts) : List SlipEntry :=
  (c.slips.map fun x => if isPrinting c.log x then { x with reprint := true } else x) ++
    c.log.flatMap (interruptedEntries 1)

/-! ### Power-up (R187) -/

theorem poweredUp_eq (pins : PowerPins) (s : State) :
    s.poweredUp pins =
      { freshBlocks pins { s with powered := true } with
        link := (Link.fresh pins.baud).posted (.power (!s.backup.latch) :: batteryReports pins.battery)
        receipts :=
          powerReceipts s.backup.latch s.backup.clock
            { s.receipts with
              printer := printerFrom pins.paperPresent
              paperPresent := pins.paperPresent
              printing := none }
        backup := { powerBackup s.backup.latch s.backup with battery := pins.battery } } := by
  unfold State.poweredUp
  rw [postBattery_eq, post_eq, posted_append]
  rfl

theorem exec_powerUp (pins : PowerPins) (s : State) :
    exec (.powerUp pins) s =
      .next
        { s.poweredUp pins with
          link := (s.poweredUp pins).link.pumped
          receipts := (kick (s.poweredUp pins)).receipts } := by
  have hfree : (s.poweredUp pins).releasedJob = none := by
    rw [poweredUp_eq]
    rfl
  exact congrArg Host.Outcome.next ((powerUp_eq pins s).trans (finish_unreleased hfree))

theorem poweredUp_receipts (pins : PowerPins) (s : State) :
    (s.poweredUp pins).receipts =
      powerReceipts s.backup.latch s.backup.clock
        { s.receipts with
          printer := printerFrom pins.paperPresent
          paperPresent := pins.paperPresent
          printing := none } := by
  rw [poweredUp_eq]

theorem poweredUp_receipts_lost (hl : s.backup.latch = true) :
    (s.poweredUp pins).receipts = ⟨[], [], printerFrom pins.paperPresent, pins.paperPresent, none⟩ := by
  rw [poweredUp_receipts, hl]
  rfl

theorem poweredUp_receipts_kept (hl : s.backup.latch = false) :
    (s.poweredUp pins).receipts =
      ⟨keptLog s.backup.clock s.receipts.log, keptSlips s.receipts, printerFrom pins.paperPresent, pins.paperPresent,
        none⟩ := by
  rw [poweredUp_receipts, hl]
  rfl

theorem poweredUp_printer (pins : PowerPins) (s : State) :
    (s.poweredUp pins).receipts.printer = printerFrom pins.paperPresent ∧
      (s.poweredUp pins).receipts.paperPresent = pins.paperPresent ∧ (s.poweredUp pins).receipts.printing = none := by
  rw [poweredUp_receipts]
  cases s.backup.latch <;> exact ⟨rfl, rfl, rfl⟩

/-- Without paper, or without a slip, the printer does not begin. -/
theorem kick_poweredUp_waits (h : pins.paperPresent = false ∨ (s.poweredUp pins).receipts.slips = []) :
    kick (s.poweredUp pins) = s.poweredUp pins := by
  refine kick_none fun hp => ?_
  obtain h | h := h
  · rw [(poweredUp_printer pins s).1, h] at hp
    cases hp
  · exact h

theorem kick_poweredUp_begins (h : pins.paperPresent = true) (hs : (s.poweredUp pins).receipts.slips = x :: rest) :
    kick (s.poweredUp pins) = beginSlip x (s.poweredUp pins) := by
  refine kick_ready ?_ hs
  rw [(poweredUp_printer pins s).1, h]
  rfl

theorem kick_paperPresent (s : State) : (kick s).receipts.paperPresent = s.receipts.paperPresent := by
  unfold kick
  split <;> rfl

theorem kick_slips (s : State) : (kick s).receipts.slips = s.receipts.slips := by
  unfold kick
  split <;> rfl

theorem keptSlips_eq (c : Receipts) (wasPrinting : SlipEntry → Prop) [DecidablePred wasPrinting]
    (h : ∀ x, isPrinting c.log x = true ↔ wasPrinting x) :
    keptSlips c =
      (c.slips.map fun x => if wasPrinting x then { x with reprint := true } else x) ++
        c.log.flatMap fun r => (r.passes.filter fun e => e.close.isNone).map fun e => ⟨r.job, e.number, 1, false⟩ := by
  unfold keptSlips
  congr 1
  · exact List.map_congr_left fun x _ => if_congr (h x) rfl rfl
  · exact congrArg (fun f => c.log.flatMap f) (funext interruptedEntries_eq)

theorem keptLog_eq {clock : Option DayTime} {settled : PassEntry → PassEntry} (h : ∀ e, e.kept clock = settled e)
    (log : List Record) :
    keptLog clock log = log.map fun r => { r with isOpen := false, passes := r.passes.map settled } := by
  obtain rfl : PassEntry.kept clock = settled := funext h
  rfl

/-- Settles O53: loss of main power, power-up by the latch and the paper, the battery monitor and the latch. -/
theorem supplyFailsAndReturns : Obligations.SupplyFailsAndReturns := by
  unfold Obligations.SupplyFailsAndReturns
  dsimp only
  refine ⟨fun s pins => ⟨fun hoff => ?dark, fun hon => ?loss, ?powerUp⟩, fun s b => ⟨fun hon => ?batteryOn,
    fun hoff => exec_batteryChange_off b hoff, ?latchSet⟩⟩
  case dark => exact congrArg Host.Outcome.next (if_neg (ne_true_of_eq_false hoff))
  case loss => exact ⟨_, congrArg Host.Outcome.next (if_pos hon), rfl, rfl, rfl, rfl, rfl, rfl, rfl⟩
  case batteryOn =>
    refine (exec_batteryChange_on b hon).trans ?_
    cases b <;> rfl
  case latchSet => exact rfl
  case powerUp =>
    obtain ⟨hprinter, hpaper, hprinting⟩ := poweredUp_printer pins s
    refine ⟨_, exec_powerUp pins s, ?_⟩
    rw [poweredUp_eq]
    refine ⟨rfl, rfl, rfl, rfl, rfl, rfl, rfl, rfl, rfl, rfl, rfl, rfl, rfl, rfl, ?sending, ?reports, ?baud, ?latch,
      rfl, ?paper⟩
    case sending => cases pins.battery <;> rfl
    case reports => cases pins.battery <;> rfl
    case baud => cases pins.battery <;> rfl
    case latch => cases s.backup.latch <;> rfl
    case paper =>
      rw [← poweredUp_eq]
      dsimp only
      refine ⟨(kick_paperPresent _).trans hpaper, fun hout => ?noPaper, fun hl => ?lost, fun hl => ?kept⟩
      case noPaper =>
        rw [kick_poweredUp_waits (.inl hout), hprinter, hout]
        exact ⟨rfl, hprinting⟩
      case lost =>
        have hreceipts : (s.poweredUp pins).receipts = _ := poweredUp_receipts_lost hl
        rw [kick_poweredUp_waits (.inr (by rw [hreceipts])), hreceipts, poweredUp_eq, hl]
        exact ⟨rfl, rfl, rfl, rfl, fun hin => ⟨by rw [hin]; rfl, rfl⟩⟩
      case kept =>
        have hreceipts : (s.poweredUp pins).receipts = _ := poweredUp_receipts_kept hl
        have hslips := (congrArg Receipts.slips hreceipts).trans (keptSlips_eq s.receipts _ (isPrinting_iff _))
        have hlog := congrArg Receipts.log hreceipts
        rw [← hslips]
        refine ⟨by rw [poweredUp_eq, hl]; rfl, by rw [poweredUp_eq, hl]; rfl, kick_slips _, fun hwaits => ?log,
          fun hin hempty => ?idle, fun x rest hin hx => ?begins⟩
        case log =>
          rw [kick_poweredUp_waits hwaits]
          exact hlog.trans (keptLog_eq (fun e => by
            cases he : e.close with
            | none => exact e.kept_inProgress _ he
            | some c => exact e.kept_closed _ he) _)
        case idle =>
          rw [kick_poweredUp_waits (.inr hempty), hprinter, hin]
          exact ⟨rfl, hprinting⟩
        case begins =>
          rw [kick_poweredUp_begins hin hx, beginSlip_eq]
          refine ⟨rfl, ?_, ?_⟩
          · rw [poweredUp_eq]; rfl
          · refine congrArg (slipSet x.job x.pass .printing) (hlog.trans (keptLog_eq (fun e => ?_) _))
            cases he : e.close with
            | none => exact e.kept_inProgress _ he
            | some c => exact e.kept_closed _ he

end Sys2Proof.Machine
end

section
/-! PROOFS. RESET (R181, R188): what each block is left with, block by block, from every state that takes it. -/

namespace Sys2Proof.Machine

variable {s : State} {p : Pass} {x : SlipEntry} {rest : List SlipEntry}

/-- A request line whose owner leaves `x`, its link the link `l` with the input buffer emptied. -/
theorem exec_takes_link (r : Request) (h : s.takes) {x : State} {v : Reply} {l : Link}
    (ho : ownerTakes r (s.onLink emptyBuffer) = (x, v)) (hl : x.link = emptyBuffer l) :
    exec r.toInstr s = .next { x with link := l.answered v } := by
  have hx : x = ({ x with link := l } : State).onLink emptyBuffer := by
    rw [State.onLink, ← hl]
  exact exec_takes r h { x with link := l } v (ho.trans (congrArg (fun y => (y, v)) hx))

/-! ### The drive and the Calibration Unit -/

/-- The drive as RESET leaves it (R47, R50). -/
def Drive.restarted (d : Drive) : Drive :=
  { d with
    drum := if d.drum = .parked then .parked else .coasting
    target := none
    lockedAt := none
    approach := none
    lockCount := 0
    lossCount := 0
    lockTimer := none
    faultHold := false
    marked := false
    queueWant := none
    calWant := none
    pendingStart := false
    idleTimer := none
    carriage := if d.carriage = .returning ∨ d.stepWaiting then .unhomed else d.carriage
    position := if d.carriage = .returning ∨ d.stepWaiting then none else d.position
    stepWaiting := false
    stepFaults := 0
    returnTimer := if d.carriage = .returning ∨ d.stepWaiting then none else d.returnTimer
    lamp := .off
    warmTimer := none }

theorem haltCarriage_eq (d : Drive) :
    haltCarriage d =
      { d with
        carriage := if d.carriage = .returning ∨ d.stepWaiting then .unhomed else d.carriage
        position := if d.carriage = .returning ∨ d.stepWaiting then none else d.position
        stepWaiting := false
        returnTimer := if d.carriage = .returning ∨ d.stepWaiting then none else d.returnTimer } := by
  unfold haltCarriage
  by_cases h : d.carriage = .returning ∨ d.stepWaiting = true
  · simp only [if_pos h]
  · have hstep : d.stepWaiting = false := by simpa using fun hw => h (.inr hw)
    simp only [if_neg h, ← hstep]

theorem resetDrive_eq (s : State) :
    resetDrive s =
      { s with
        link := s.link.posted (if s.drive.drum.motorOn then [.drum .coasting none] else [])
        drive := s.drive.restarted } := by
  unfold resetDrive
  rw [motorOff_eq]
  simp only [State.onDrive, haltCarriage_eq]
  rfl

/-- The Calibration Unit as RESET leaves it (R87). -/
def Calib.restarted (c : Calib) : Calib :=
  { c with
    state :=
      if (c.run.map (·.savedState)).getD c.state = .fresh then .stale else (c.run.map (·.savedState)).getD c.state
    gain := (c.run.map (·.savedStep)).getD c.gain
    request := false
    run := none }

theorem afterReset_eq (c : CalState) : c.afterReset = if c = .fresh then .stale else c := by
  cases c <;> rfl

theorem resetCal_eq (s : State) : resetCal s = { s with cal := s.cal.restarted } := by
  unfold resetCal State.onCal Calib.restarted
  cases hr : s.cal.run <;> simp [afterReset_eq, hr]

/-! ### The Scan Unit and the Sender -/

theorem closePass_detached (hp : s.sender.pass = some p) (hd : p.detached = true) :
    closePass s =
      { s with
        link := s.link.posted [.passEnd p.job p.number (p.outcome.getD .failed) p.reason]
        scan := { s.scan.over with pass := none }
        circuit := (stopRounds s).circuit
        sender := ⟨if s.breakPresent then .broken else .free, none, .silent, none⟩
        receipts := (completePass p.closed (p.outcome.getD .failed) (stopRounds (scanEnd s))).receipts } := by
  simp only [closePass, hp, hd, if_true, post_eq]
  rw [completePass_frame]
  rfl

/-- The log with every record closed. -/
def closedLog (log : List Record) : List Record := log.map fun r => { r with isOpen := false }

theorem closedLog_closeRecord (n : Nat) (s : State) :
    closedLog (closeRecord n s).receipts.log = closedLog s.receipts.log := by
  unfold closeRecord
  split
  · rfl
  · unfold closedLog
    refine (List.map_map ..).trans (List.map_congr_left fun r _ => ?_)
    dsimp only [Function.comp_apply]
    split_ifs <;> rfl

/-- The log as a completed pass leaves it, every record closed. -/
def completedLog (job : Nat) (c : PassClose) (log : List Record) : List Record :=
  log.map fun r =>
    { r with
      isOpen := false
      passes := r.passes.map fun e => if r.job = job ∧ e.close = none then { e with close := some c } else e }

theorem closedLog_completePass (p : Pass) (o : PassOutcome) (s : State) :
    closedLog (completePass p o s).receipts.log = completedLog p.job (passClose p o s) s.receipts.log := by
  unfold completePass
  rw [closedLog_closeRecord]
  refine (List.map_map ..).trans (List.map_congr_left fun r _ => ?_)
  dsimp only [Function.comp_apply]
  by_cases hr : r.job = p.job
  · rw [if_pos hr]
    refine congrArg (fun l => ({ r with isOpen := false, passes := l } : Record)) (List.map_congr_left fun e _ => ?_)
    have he : e.inProgress = true ↔ r.job = p.job ∧ e.close = none := by simp [PassEntry.inProgress, hr]
    exact if_congr he rfl rfl
  · rw [if_neg hr]
    simp [hr]

theorem completePass_receipts (p : Pass) (o : PassOutcome) (s : State) :
    (completePass p o s).receipts =
      { s.receipts with
        log := (completePass p o s).receipts.log
        slips := s.receipts.slips ++ slipEntries s.settings.copies p.job p.number } := by
  unfold completePass
  rw [closeRecord_frame]
  rfl

/-! ### The printer (R165) -/

/-- What RESET makes of the Receipt Unit, every record closed and the oldest slip begun where paper is present. -/
structure Receipts.Restarted (c : Receipts) (now : Moment) (t : Receipts) : Prop where
  empty : c.slips = [] → t.slips = [] ∧ t.log = closedLog c.log
  oldest : ∀ x rest, c.slips = x :: rest →
    t.slips = (if c.printer = .printing then { x with reprint := true } else x) :: rest ∧
      t.log =
        (if c.paperPresent then slipSet x.job x.pass .printing (closedLog c.log)
        else if c.printer = .printing then slipSet x.job x.pass .pending (closedLog c.log)
        else closedLog c.log)
  lines : t.printing.map (·.lineEnds) = if t.printer = .printing then some (now + 300) else none
  printer : t.printer = if c.paperPresent = false then .paperOut else if t.slips = [] then .ready else .printing

/-- The receipts with every record closed and a slip being printed cut. -/
def Receipts.cut (c : Receipts) : Receipts :=
  { c with
    log :=
      match c.slips with
      | [] => closedLog c.log
      | x :: _ => if c.printer = .printing then slipSet x.job x.pass .pending (closedLog c.log) else closedLog c.log
    slips :=
      match c.slips with
      | [] => []
      | x :: rest => (if c.printer = .printing then { x with reprint := true } else x) :: rest
    printer := printerFrom c.paperPresent
    printing := none }

theorem resetReceipts_eq (s : State) : resetReceipts s = { s with receipts := s.receipts.cut } := by
  unfold resetReceipts Receipts.cut closeAll State.onReceipts
  by_cases hp : s.receipts.printer = .printing
  · cases hs : s.receipts.slips <;> simp [hp, hs, cutSlip, setSlip_eq, State.onReceipts, closedLog]
  · cases hs : s.receipts.slips <;> simp [hp, hs, closedLog]

theorem cut_nil {c : Receipts} (hs : c.slips = []) :
    c.cut = ⟨closedLog c.log, [], printerFrom c.paperPresent, c.paperPresent, none⟩ := by
  simp only [Receipts.cut, hs]

theorem cut_cons {c : Receipts} (hs : c.slips = x :: rest) :
    c.cut =
      ⟨if c.printer = .printing then slipSet x.job x.pass .pending (closedLog c.log) else closedLog c.log,
        (if c.printer = .printing then { x with reprint := true } else x) :: rest, printerFrom c.paperPresent,
        c.paperPresent, none⟩ := by
  simp only [Receipts.cut, hs]

theorem conclude_resetReceipts (hr : s.releasedJob = none) :
    ∃ c, conclude (resetReceipts s) = { s with receipts := c } ∧ s.receipts.Restarted s.now c := by
  rw [resetReceipts_eq, conclude, settle_none (by exact hr)]
  cases hs : s.receipts.slips with
  | nil =>
    rw [cut_nil hs, kick_none (by exact fun _ => rfl)]
    refine ⟨_, rfl, fun _ => ⟨rfl, rfl⟩, fun x rest h => ?_, ?_, ?_⟩
    · rw [hs] at h; cases h
    · cases s.receipts.paperPresent <;> rfl
    · cases s.receipts.paperPresent <;> rfl
  | cons y more =>
    rw [cut_cons hs]
    cases hp : s.receipts.paperPresent with
    | false =>
      rw [kick_none (by exact nofun)]
      refine ⟨_, rfl, fun h => ?_, fun x rest h => ?_, rfl, by rw [hp]; rfl⟩
      · rw [hs] at h; cases h
      · rw [hs] at h; cases h
        exact ⟨rfl, by rw [hp]; rfl⟩
    | true =>
      rw [kick_ready (by rfl) (by rfl), beginSlip_eq]
      refine ⟨_, rfl, fun h => ?_, fun x rest h => ?_, rfl, by rw [hp]; rfl⟩
      · rw [hs] at h; cases h
      · rw [hs] at h; cases h
        refine ⟨rfl, ?_⟩
        rw [hp]
        by_cases hprinting : s.receipts.printer = .printing
        · simp only [Receipts.printingOf, if_pos hprinting, slipSet_slipSet, if_true]
        · simp only [Receipts.printingOf, if_neg hprinting, if_true]

/-! ### The Circuit Unit, the Scan Unit and the pass (R72, R74, R88, R108, R148) -/

/-- The Circuit Unit as RESET leaves it. -/
def Circuit.restarted (c : Circuit) : Circuit :=
  { c with
    rounds := none
    garble := 0
    roster := c.roster.map fun e => { e with masked := e.maskPending, silence := 0, noise := 0 } }

theorem resetCircuit_eq (s : State) : resetCircuit s = { s with circuit := s.circuit.restarted } := by
  simp only [resetCircuit, zeroCounts, stopRounds, applyMask, State.onCircuit, List.map_map]
  rfl

theorem stopRounds_restarted (s : State) : (stopRounds s).circuit.restarted = s.circuit.restarted := by
  simp only [stopRounds, applyMask, State.onCircuit, Circuit.restarted, List.map_map]
  rfl

theorem station_stopRounds_noise (n : Nat) (s : State) : ((stopRounds s).station n).noise = (s.station n).noise := by
  simp only [stopRounds, applyMask, State.onCircuit, State.station, List.getD_eq_getElem?_getD, List.getElem?_map]
  cases s.circuit.roster[n - 1]? <;> rfl

/-- The Scan Unit without a pass: the store is emptied where scanning had not ended. -/
theorem over_over_closed (c : Scan) :
    ({ c.over.over with pass := none } : Scan) =
      { c with pass := none, store := if ∃ x, c.pass = some x ∧ x.ended = false then [] else c.store } := by
  cases hc : c.pass with
  | none => simp [Scan.over, hc]
  | some x => cases hx : x.ended <;> simp [Scan.over, hc, hx]

theorem PartyState.closed_eq (e : PartyState) :
    e.closed = if e = .invited then .absent else if e = .joined then .noReceipt else e := by
  cases e <;> rfl

/-- The close of the pass in progress as RESET enters it (R148, R156). -/
def State.completedPass (s : State) (p : Pass) : PassClose :=
  { stamp := s.backup.clock
    outcome := p.outcome.getD .failed
    reason := if p.outcome = none then some .reset else p.reason
    secondary := if p.outcome = none then p.secondary else some (p.secondary.getD .reset)
    counts :=
      some
        (match s.scan.pass with
        | none => ⟨p.sent, p.fills, 0, 0, false⟩
        | some x => ⟨p.sent, p.fills, x.heldRefs, x.spoiledLines, x.drift⟩)
    slip := if s.settings.copies = 0 then .skipped else .pending
    results := p.party.map fun e =>
      { station := e.station
        name := e.name
        final := some (if e.state = .invited then .absent else if e.state = .joined then .noReceipt else e.state)
        noise := some (s.station e.station).noise } }

/-- The pass record as RESET decides it, detached from its job. -/
def Pass.restarted (p : Pass) : Pass := ({ p with detached := true } : Pass).resetReasons

theorem Pass.restarted_eq (p : Pass) :
    p.restarted =
      { p with
        detached := true
        outcome := some (p.outcome.getD .failed)
        reason := if p.outcome = none then some .reset else p.reason
        secondary := if p.outcome = none then p.secondary else some (p.secondary.getD .reset) } := by
  unfold Pass.restarted Pass.resetReasons
  cases p.outcome <;> simp

theorem passCounts_over (p : Pass) (s : State) :
    passCounts p (stopRounds (scanEnd (scanEnd s))) = passCounts p s := by
  cases hx : s.scan.pass with
  | none => simp [passCounts, stopRounds, applyMask, State.onCircuit, scanEnd_eq, Scan.over, hx]
  | some x => cases he : x.ended <;> simp [passCounts, stopRounds, applyMask, State.onCircuit, scanEnd_eq, Scan.over, hx, he]

theorem passClose_restarted (p : Pass) (s : State) :
    passClose p.restarted.closed (p.restarted.outcome.getD .failed) (stopRounds (scanEnd (scanEnd s))) =
      s.completedPass p := by
  have hresults : partyResults p.restarted.closed.party (stopRounds (scanEnd (scanEnd s))) =
      (s.completedPass p).results := by
    simp only [partyResults, station_stopRounds_noise, Pass.restarted_eq, Pass.closed, List.map_map,
      Function.comp_def, PartyState.closed_eq]
    rfl
  unfold passClose
  rw [passCounts_over, hresults, Pass.restarted_eq]
  rfl

/-- The link as RESET clears it (R181), with what the drive posts. -/
def State.linkRestarted (s : State) : Link :=
  ({ s.link with reports := [], overflow := false, paused := false } : Link).posted
    (if s.drive.drum.motorOn then [.drum .coasting none] else [])

/-- The blocks that RESET restarts before the Sender closes the pass. -/
def State.unitsRestarted (s : State) : State :=
  { s with
    link := emptyBuffer s.linkRestarted
    queue := ⟨[], if s.queue.load = .coverOpen then .coverOpen else .unbound, []⟩
    drive := s.drive.restarted
    cal := s.cal.restarted
    sender := { s.sender with pass := s.sender.pass.map fun p => { p with detached := true } } }

theorem resetUnits_eq (s : State) : resetCal (resetDrive (resetQueue (resetLink s))) = s.unitsRestarted := by
  rw [resetCal_eq, resetDrive_eq]
  rfl

theorem onPass_none (hp : s.sender.pass = none) (f : Pass → Pass) : s.onPass f = s := by
  have hsender : ({ s.sender with pass := s.sender.pass.map f } : Sender) = s.sender := by
    rw [hp, Option.map_none, ← hp]
  exact congrArg (fun x => ({ s with sender := x } : State)) hsender

theorem resetSender_free (hp : s.sender.pass = none) (hx : s.scan.pass = none) : resetSender s = s := by
  have hover : s.scan.over = s.scan := by simp [Scan.over, hx]
  rw [resetSender, onPass_none hp, scanEnd_eq, hover, closePass, hp]

theorem resetSender_closes (hp : s.sender.pass = some { p with detached := true }) :
    resetSender s =
      { s with
        link := s.link.posted
          [.passEnd p.job p.number (p.outcome.getD .failed) (if p.outcome = none then some .reset else p.reason)]
        scan := { s.scan.over.over with pass := none }
        circuit := (stopRounds s).circuit
        sender := ⟨if s.breakPresent then .broken else .free, none, .silent, none⟩
        receipts :=
          (completePass p.restarted.closed (p.restarted.outcome.getD .failed)
            (stopRounds (scanEnd (scanEnd (s.onPass Pass.resetReasons))))).receipts } := by
  have hpass : (scanEnd (s.onPass Pass.resetReasons)).sender.pass = some p.restarted := by
    simp [State.onPass, State.onSender, hp, Pass.restarted, scanEnd_eq]
  rw [resetSender, closePass_detached hpass (by rw [Pass.restarted_eq])]
  simp only [Pass.restarted_eq, Option.getD_some]
  rfl

/-- RESET with no pass in progress. -/
theorem resetAll_free (hp : s.sender.pass = none) (hx : s.scan.pass = none) :
    ∃ c, resetAll s = { s.unitsRestarted with circuit := s.circuit.restarted, receipts := c } ∧
      s.receipts.Restarted s.now c := by
  have hsender : resetSender s.unitsRestarted = s.unitsRestarted :=
    resetSender_free (congrArg (Option.map _) hp) hx
  unfold resetAll
  rw [resetUnits_eq, hsender, resetCircuit_eq]
  exact conclude_resetReceipts (s := { s.unitsRestarted with circuit := s.circuit.restarted }) rfl

/-- The receipts as the pass in progress leaves them. -/
def State.receiptsCompleted (s : State) (p : Pass) : Receipts :=
  { s.receipts with
    log := completedLog p.job (s.completedPass p) s.receipts.log
    slips := s.receipts.slips ++ slipEntries s.settings.copies p.job p.number }

theorem closedLog_completedLog (job : Nat) (c : PassClose) (log : List Record) :
    closedLog (completedLog job c log) = completedLog job c log := by
  unfold closedLog completedLog
  rw [List.map_map]
  rfl

theorem Receipts.Restarted.of_log {c d t : Receipts} {now : Moment} (h : c.Restarted now t)
    (hd : d = { c with log := d.log }) (hlog : closedLog c.log = closedLog d.log) : d.Restarted now t := by
  rw [hd]
  obtain ⟨hempty, holdest, hlines, hprinter⟩ := h
  rw [hlog] at hempty holdest
  exact ⟨hempty, holdest, hlines, hprinter⟩

/-- RESET with a pass in progress, which is closed. -/
theorem resetAll_closes (hp : s.sender.pass = some p) :
    ∃ c,
      resetAll s =
        { s.unitsRestarted with
          link := (emptyBuffer s.linkRestarted).posted
            [.passEnd p.job p.number (p.outcome.getD .failed) (if p.outcome = none then some .reset else p.reason)]
          scan := { s.scan.over.over with pass := none }
          circuit := s.circuit.restarted
          sender := ⟨if s.breakPresent then .broken else .free, none, .silent, none⟩
          receipts := c } ∧
      (s.receiptsCompleted p).Restarted s.now c := by
  have hsender := resetSender_closes (s := s.unitsRestarted) (congrArg (Option.map _) hp)
  unfold resetAll
  rw [resetUnits_eq, hsender, resetCircuit_eq]
  obtain ⟨c, hc, hr⟩ := conclude_resetReceipts (s := (
    { s.unitsRestarted with
      link := (emptyBuffer s.linkRestarted).posted
        [.passEnd p.job p.number (p.outcome.getD .failed) (if p.outcome = none then some .reset else p.reason)]
      scan := { s.scan.over.over with pass := none }
      circuit := (stopRounds s.unitsRestarted).circuit.restarted
      sender := ⟨if s.breakPresent then .broken else .free, none, .silent, none⟩
      receipts :=
        (completePass p.restarted.closed (p.restarted.outcome.getD .failed)
          (stopRounds (scanEnd (scanEnd (s.unitsRestarted.onPass Pass.resetReasons))))).receipts } : State)) rfl
  refine ⟨c, hc.trans ?_, hr.of_log ?_ ?_⟩
  · rw [stopRounds_restarted]
    rfl
  · rw [completePass_receipts, Pass.restarted_eq]
    rfl
  · refine (closedLog_completePass ..).trans ?_
    rw [passClose_restarted, Pass.restarted_eq]
    exact (closedLog_completedLog ..).symm

theorem scan_free_closed {c : Scan} (hx : c.pass = none) :
    c = { c with pass := none, store := if ∃ x, c.pass = some x ∧ x.ended = false then [] else c.store } := by
  have hover : c.over = c := by simp [Scan.over, hx]
  rw [← over_over_closed, hover, hover, ← hx]

/-- Settles O29: RESET block by block, without a pass and with one. -/
theorem resetRestartsPart : Obligations.ResetRestartsPart := by
  intro s h hscan
  cases hp : s.sender.pass with
  | none =>
    have hx := hscan hp
    obtain ⟨c, hc, hempty, holdest, hlines, hprinter⟩ := resetAll_free (s := s.onLink emptyBuffer) hp hx
    have hsame : closedLog s.receipts.log =
        s.receipts.log.map fun r => { r with isOpen := false, passes := r.passes.map fun e => e } := by
      simp [closedLog]
    refine ⟨_, exec_takes_link (.reset []) h (l := s.linkRestarted) (congrArg (fun t => (t, Reply.reset)) hc) rfl, ?_⟩
    refine ⟨congrArg (Link.answered .reset) (congrArg (Link.posted _) (List.append_nil _).symm), rfl, rfl, rfl,
      scan_free_closed hx, rfl, congrArg (Option.map _) hp, rfl, nofun, ?_, hlines, hprinter, rfl, rfl, rfl⟩
    dsimp only
    rw [List.append_nil, ← hsame]
    exact ⟨hempty, holdest⟩
  | some p =>
    obtain ⟨c, hc, hempty, holdest, hlines, hprinter⟩ := resetAll_closes (s := s.onLink emptyBuffer) hp
    refine ⟨_, exec_takes_link (.reset []) h (l := s.linkRestarted.posted _)
      (congrArg (fun t => (t, Reply.reset)) hc) rfl, ?_⟩
    have hlog : closedLog ((s.onLink emptyBuffer).receiptsCompleted p).log = _ := closedLog_completedLog ..
    rw [hlog] at hempty holdest
    refine ⟨congrArg (Link.answered .reset) (posted_append ..), rfl, rfl, rfl, over_over_closed _, rfl, rfl, ?_, fun _ => rfl,
      ⟨hempty, holdest⟩, hlines, hprinter, rfl, rfl, rfl⟩
    show (if s.breakPresent = true then CircuitState.broken else .free) =
      if s.circuit.detector = .present ∨ s.circuit.detector = .ending then .broken else .free
    exact if_congr (by rw [State.breakPresent_eq, decide_eq_true_iff]) rfl rfl

end Sys2Proof.Machine
end

section
/-! PROOFS. The panel keys (R13, R23): each acts as its request of the mounted job, or is ignored. -/

namespace Sys2Proof.Machine

variable {s t : State} {args : List Text} {j : Job}

/-! ### A RELEASED job that goes on waiting (R16, R19) -/

theorem missingCauses_eq (s : State) (j : Job) :
    s.missingCauses j =
      (if s.drive.drum = .locked ∧ s.drive.lockedAt = some j.speed then []
        else if s.drive.pendingStart = true then [.budget]
        else [.drum]) ++
      (if s.drive.lamp = .ready then [] else [.lamp]) ++
      (if s.cal.state = .fresh then [] else [.cal]) ++
      (if s.sender.circ = .free then [] else [.circuit]) ++
      (if 1 < j.passNo ∨ s.receipts.log.length < 16 ∨ ∃ r ∈ s.receipts.log, r.reclaimable = true then []
        else [.log]) := by
  have hlock : s.lockedAtSpeed j.speed = true ↔ s.drive.drum = .locked ∧ s.drive.lockedAt = some j.speed := by
    simp [State.lockedAtSpeed]
  simp only [State.missingCauses, hlock, beq_iff_eq, recordAvailable_iff]

theorem settle_waits (hj : s.releasedJob = some j) (h : s.waits j) : settle s = s := by
  obtain ⟨hnot, hmissing⟩ := h
  have hasks : s.asksCalibration j = false := by
    rw [Bool.eq_false_iff]
    intro hasks
    simp only [State.asksCalibration, State.lockedAtSpeed, Bool.and_eq_true, beq_iff_eq] at hasks
    exact hnot ⟨hasks.1.1.1, hasks.1.1.2, hasks.1.2⟩
  have hcauses : s.missingCauses j = s.queue.missing := (missingCauses_eq s j).trans hmissing.symm
  have hne : s.missingCauses j ≠ [] := by
    rw [missingCauses_eq]
    intro hnil
    simp only [List.append_eq_nil_iff] at hnil
    obtain ⟨⟨⟨⟨hdrum, hlamp⟩, -⟩, -⟩, -⟩ := hnil
    have hready : s.drive.lamp = .ready := by
      by_contra hno
      simp [hno] at hlamp
    by_cases hd : s.drive.drum = .locked ∧ s.drive.lockedAt = some j.speed
    · exact hnot ⟨hd.1, hd.2, hready⟩
    · rw [if_neg hd] at hdrum
      split_ifs at hdrum
  rw [settle_some hj, autoCalibrate, hasks, if_neg Bool.false_ne_true, startTest, if_neg hne, if_pos hcauses]

theorem finish_waits (hj : s.releasedJob = some j) (h : s.waits j)
    (hp : s.receipts.printer = .ready → s.receipts.slips = []) : finish s = { s with link := s.link.pumped } := by
  rw [finish, conclude, settle_waits hj h, kick_none hp, pump_eq]

/-! ### The mounted job -/

theorem mountedJob_none (h : ∀ j ∈ s.queue.jobs, j.state = .queued) : s.mountedJob = none := by
  simpa [State.mountedJob] using h

theorem mem_of_mountedJob (h : s.mountedJob = some j) : j ∈ s.queue.jobs := List.mem_of_find?_eq_some h

/-- A RELEASED mounted job is the RELEASED job. -/
theorem releasedJob_of_mounted (h : s.mountedJob = some j) (hr : j.state = .released) : s.releasedJob = some j := by
  obtain ⟨-, before, after, hjobs, hbefore⟩ := List.find?_eq_some_iff_append.mp h
  refine List.find?_eq_some_iff_append.mpr ⟨by simp [hr], before, after, hjobs, fun k hk => ?_⟩
  have hq : k.state = .queued := by simpa using hbefore k hk
  simp [hq]

theorem findJob_of_mem (hnd : (s.queue.jobs.map (·.number)).Nodup) (hj : j ∈ s.queue.jobs) :
    s.findJob j.number = some j := by
  unfold State.findJob
  generalize s.queue.jobs = jobs at hnd hj ⊢
  induction jobs with
  | nil => cases hj
  | cons k jobs ih =>
    obtain ⟨hk, hnd⟩ := List.nodup_cons.mp hnd
    obtain rfl | hj := List.mem_cons.mp hj
    · simp
    · have hne : ¬ k.number = j.number := fun he => hk (List.mem_map.mpr ⟨j, hj, he.symm⟩)
      simpa [hne] using ih hnd hj

/-! ### The keys as their requests (R23) -/

theorem holdKey_eq (hm : s.mountedJob = some j) (hj : jobArg args s = .ok j) :
    holdKey s = (ownerTakes (.hold args) s).1 := by
  simp only [holdKey, hm, ownerTakes, requestHold, hj]
  cases holdJob j s <;> rfl

theorem stopKey_eq (hs : s.resting) (hm : s.mountedJob = some j) (hj : jobArg args s = .ok j) :
    conclude (stopKey s) = (ownerTakes (.kill args) s).1 := by
  simp only [stopKey, hm, ownerTakes, requestKill, hj]
  cases killJob j s with
  | error c => exact conclude_resting hs
  | ok x => rfl

theorem sendKey_active (hs : s.resting) (hm : s.mountedJob = some j) (hj : jobArg args s = .ok j)
    (ha : j.state = .active) : conclude (sendKey s) = (ownerTakes (.go args) s).1 := by
  simp only [sendKey, hm, ha, ownerTakes, requestGo, hj]
  cases goJob j s with
  | error c => exact conclude_resting hs
  | ok x => rfl

theorem keys_none (hm : s.mountedJob = none) : holdKey s = s ∧ stopKey s = s ∧ sendKey s = s := by
  simp [holdKey, stopKey, sendKey, hm]

theorem sendKey_ignored (hm : s.mountedJob = some j)
    (h : j.state = .released ∨ j.state = .finished ∨ (j.state = .mounted ∧ s.mayRelease j = false)) : sendKey s = s := by
  obtain h | h | ⟨h, hr⟩ := h
  · simp [sendKey, hm, h]
  · simp [sendKey, hm, h]
  · simp [sendKey, hm, h, hr]

theorem sendKey_releases (hm : s.mountedJob = some j) (h : j.state = .mounted) (hr : s.mayRelease j = true) :
    sendKey s = release .key j s := by
  simp [sendKey, hm, h, hr]

theorem holdKey_ignored (hm : s.mountedJob = some j) (h : j.state ≠ .active) : holdKey s = s := by
  simp [holdKey, hm, holdJob_not_active h]

theorem stopKey_waiting (hm : s.mountedJob = some j) (h : j.state = .queued ∨ j.state = .mounted ∨ j.state = .released) :
    stopKey s = leaveQueue j s := by
  simp [stopKey, hm, killJob_waiting h]

/-- Settles O31: the keys without a mounted job, with one that is not RELEASED, and with a RELEASED one. -/
theorem panelKeysActAsRequests : Obligations.PanelKeysActAsRequests := by
  intro s hon hprinter hnd hrange
  have hhold := exec_pump (i := .holdKey) (f := holdKey) rfl hon
  have hstop := exec_finish (i := .stopKey) (f := stopKey) rfl hon
  have hsend := exec_finish (i := .sendKey) (f := sendKey) rfl hon
  refine ⟨fun hq => ?none, fun j hr hm => ?other, fun j hm hr => ?released⟩
  case none =>
    have hs : s.resting := by
      refine ⟨?_, hprinter⟩
      simpa [State.releasedJob] using fun k hk => by rw [hq k hk]; decide
    obtain ⟨h1, h2, h3⟩ := keys_none (mountedJob_none hq)
    rw [hhold, hstop, hsend, h1, h2, h3, finish_resting hs, pump_eq]
    exact ⟨rfl, rfl, rfl⟩
  case other =>
    have hs : s.resting := ⟨hr, hprinter⟩
    have hmem := mem_of_mountedJob hm
    have hf := findJob_of_mem hnd hmem
    have hj : jobArg [Nat.toDigits 10 j.number] s = .ok j :=
      jobArg_found (number?_digits _) (hrange j hmem).1 (hrange j hmem).2 hf
    refine ⟨?_, ?_, fun ha => ?_, fun hno => ?_, fun hmounted hrel hload hlamp hdrum hp hcal hfree hlog => ?_⟩
    · rw [hhold, holdKey_eq hm hj, pump_eq]
    · rw [hstop, finish, stopKey_eq hs hm hj, pump_eq]
    · rw [hsend, finish, sendKey_active hs hm hj ha, pump_eq]
    · rw [hsend, sendKey_ignored hm (.inr (hno.imp_right fun ⟨hmounted, r, hrel, ht⟩ =>
        ⟨hmounted, by simp [State.mayRelease, hrel, ht]⟩)), finish_resting hs]
    · have hmay : s.mayRelease j = true := by simp [State.mayRelease, hrel]
      rw [hsend, sendKey_releases hm hmounted hmay, finish_release ⟨hlamp, hdrum⟩ hs hf,
        waitCauses_drum_lamp hp hcal hfree hlog]
  case released =>
    have hreleased := releasedJob_of_mounted hm hr
    refine ⟨?_, fun hw => ?_, fun honly hload hwant hcal hidle => ?_⟩
    · rw [hhold, holdKey_ignored hm (by rw [hr]; decide), pump_eq]
    · rw [hsend, sendKey_ignored hm (.inl hr), finish_waits hreleased hw hprinter]
    · have hleave := leaveQueue_bound (s := s) (j := j) (by rw [hr]; decide) hload
        (withdrawQueueWant_only hwant hcal hidle)
      have hnone : (leaveQueue j s).releasedJob = none :=
        releasedJob_filter (s := s) (fun k => k.number != j.number) (by rw [hleave]; rfl)
          fun k hk hs => by simp [honly k hk hs]
      rw [hstop, stopKey_waiting hm (.inr (.inr hr))]
      rw [hleave] at hnone ⊢
      rw [finish_resting (by exact ⟨hnone, hprinter⟩)]
      rfl

end Sys2Proof.Machine
end

section
/-! PROOFS. The sensors and timers of drum, carriage and lamp (R29, R33, R36 to R38, R41 to R48). -/

namespace Sys2Proof.Machine

variable {s t : State} {m : Moment} {j : Job} {v : Speed} {rest : List Moment}

/-! ### Carriage and drum sensors (R33, R41 to R44) -/

theorem tachometerSilence_coasting (h : s.drive.drum = .coasting) :
    tachometerSilence s =
      { s with link := s.link.posted [.drum .parked none], drive := { s.drive with drum := .parked } } := by
  simp only [tachometerSilence, h, if_true, post_eq]
  rfl

theorem indexMark_off (h : s.drive.atRest) : indexMark n s = s.onDrive fun d => { d with nextPos := none } := by
  obtain h | h := h <;> simp [indexMark, h, DrumState.approaching]

theorem failPass_none (r : Reason) (h : s.sender.pass = none) : failPass r s = s := by
  simp only [failPass, h]

theorem carriageFault_idle (h : s.sender.pass = none) :
    carriageFault s =
      { s with
        link := s.link.posted [.drumFault .carriage]
        drive := { s.drive with carriage := .unhomed, position := none } } := by
  simp only [carriageFault, post_eq, h]
  rfl

theorem returnTimeout_idle (h : s.sender.pass = none) (hm : s.drive.returnTimer = some m) :
    returnTimeout s =
      { s with
        now := max s.now m
        link := s.link.posted [.drumFault .carriage]
        drive := { s.drive with carriage := .unhomed, position := none, returnTimer := none } } := by
  simp only [returnTimeout, hm]
  rw [carriageFault_idle (by exact h)]
  rfl

theorem endSwitch_idle (h : s.sender.pass = none) :
    endSwitch s =
      { s with
        link := s.link.posted [.drumFault .carriage]
        drive := { s.drive with carriage := .unhomed, position := none, stepWaiting := false, returnTimer := none } } := by
  unfold endSwitch
  rw [carriageFault_idle (by exact h)]
  rfl

/-- Settles O32: each sensor and timer of the carriage and the drum by itself. -/
theorem carriageAndDrumSensors : Obligations.CarriageAndDrumSensors := by
  intro s hon
  refine ⟨fun hd => ?silence, fun period hs hd => ?mark, ?home, ?step, fun m hs hp hm => ?timer, fun hs hp => ?switch⟩
  case silence => rw [exec_pump (f := tachometerSilence) rfl hon, tachometerSilence_coasting hd, pump_eq]
  case mark =>
    rw [exec_finish (f := indexMark period) rfl hon, indexMark_off hd.symm, finish_resting (by exact hs)]
    rfl
  case home => exact live_on homeSwitch hon
  case step => exact live_on stepSense hon
  case timer =>
    rw [exec_finish (f := returnTimeout) rfl hon, returnTimeout_idle hp hm, finish_resting (by exact hs)]
  case switch =>
    rw [exec_finish (f := endSwitch) rfl hon, endSwitch_idle hp, finish_resting (by exact hs)]

/-! ### The lock timer (R29, R32) -/

theorem calDriveFault_idle (hr : s.cal.run = none) (hq : s.cal.request = false) : calDriveFault s = s := by
  simp [calDriveFault, hr, hq]

/-- A drive fault with no pass, run or request ends at the drive. -/
theorem driveFault_alone (k : DrumFault) (hm : s.drive.drum.motorOn = true) (hp : s.sender.pass = none)
    (hr : s.cal.run = none) (hq : s.cal.request = false) :
    driveFault k s =
      clearFaultHold
        { s with
          link := s.link.posted [.drumFault k, .drum .coasting none]
          drive := { stopMotor s.drive with faultHold := true, pendingStart := false } } := by
  have hoff : (motorOff (post (.drumFault k) s)).onDrive (fun d => { d with faultHold := true, pendingStart := false }) =
      { s with
        link := s.link.posted [.drumFault k, .drum .coasting none]
        drive := { stopMotor s.drive with faultHold := true, pendingStart := false } } := by
    rw [motorOff_eq, post_eq, if_pos (by exact hm), posted_append]
    rfl
  unfold driveFault
  rw [hoff, calDriveFault_idle (by exact hr) (by exact hq), failPass_none _ (by exact hp)]

/-- The queue's want keeps the fault hold set. -/
theorem driveFault_wanted (k : DrumFault) (hm : s.drive.drum.motorOn = true) (hp : s.sender.pass = none)
    (hr : s.cal.run = none) (hq : s.cal.request = false) (hw : s.drive.queueWant.isSome) :
    driveFault k s =
      { s with
        link := s.link.posted [.drumFault k, .drum .coasting none]
        drive := { stopMotor s.drive with faultHold := true, pendingStart := false } } := by
  rw [driveFault_alone k hm hp hr hq, clearFaultHold, if_neg]
  simpa [stopMotor, Option.isNone_iff_eq_none, Option.isSome_iff_ne_none] using hw

theorem stopMotor_off (d : Drive) : (stopMotor d).drum ≠ .locked := by
  unfold stopMotor
  dsimp only
  split_ifs <;> decide

/-! ### Idle hold and the spin-up entries (R36 to R38) -/

theorem idleHoldExpiry_unwanted (hm : s.drive.idleTimer = some m) (hq : s.drive.queueWant = none)
    (hc : s.drive.calWant = none) : idleHoldExpiry s = idleExpire (advanceTo m s) := by
  simp [idleHoldExpiry, hm, Drive.wanted, hq, hc]

theorem spinUpEntryExpiry_dropped (h : s.drive.spinUps = m :: rest) (hp : s.drive.pendingStart = false) :
    spinUpEntryExpiry s = advanceTo (m + 900000) s := by
  simp only [spinUpEntryExpiry, h, hp, Bool.false_eq_true, if_false]
  rfl

/-- The oldest entry's end lets a pending start begin. -/
theorem spinUpEntryExpiry_starts (h : s.drive.spinUps = m :: rest) (hp : s.drive.pendingStart = true)
    (hload : s.queue.load ≠ .coverOpen) (hf : s.drive.faultHold = false) (hcal : s.cal.state ≠ .running)
    (hw : s.drive.wanted = some v) (hd : s.drive.atRest) (hlen : rest.length < 6)
    (hnow : ∀ x ∈ rest, x < max s.now (m + 900000)) :
    spinUpEntryExpiry s =
      { s with
        now := max s.now (m + 900000)
        link := s.link.posted [.drum .spinningUp (some v)]
        drive :=
          ({ s.drive with pendingStart := false } : Drive).spinningUp v (youngStarts (max s.now (m + 900000)) rest)
            (max s.now (m + 900000)) } := by
  have hyoung : (youngStarts (max s.now (m + 900000)) rest).length < 6 :=
    lt_of_le_of_lt (List.length_filter_le ..) hlen
  have hlate : ∀ x ∈ youngStarts (max s.now (m + 900000)) rest, x < max s.now (m + 900000) :=
    fun x hx => hnow x (List.mem_of_mem_filter hx)
  simp only [spinUpEntryExpiry, h, hp, if_true]
  rw [serveDrum_atRest (by exact hd) (by exact hload) (by exact hf) rfl (by exact hcal) (by exact hw)]
  refine (spinUp_started (by exact hyoung) (by exact hlate) v).trans ?_
  rfl

/-- The missing start conditions beside the drum (R19). -/
def State.otherCauses (s : State) (j : Job) : List Cause :=
  (if s.drive.lamp = .ready then [] else [.lamp]) ++
    (if s.cal.state = .fresh then [] else [.cal]) ++
    (if s.sender.circ = .free then [] else [.circuit]) ++
    (if 1 < j.passNo ∨ s.receipts.log.length < 16 ∨ ∃ r ∈ s.receipts.log, r.reclaimable = true then [] else [.log])

theorem missingCauses_unlocked (hd : s.drive.drum ≠ .locked) (j : Job) :
    s.missingCauses j = (if s.drive.pendingStart = true then .budget else .drum) :: s.otherCauses j := by
  have hnot : ¬ (s.drive.drum = .locked ∧ s.drive.lockedAt = some j.speed) := fun h => hd h.1
  rw [missingCauses_eq, if_neg hnot]
  unfold State.otherCauses
  split_ifs <;> rfl

theorem approaching_motorOn {d : DrumState} (h : d.approaching = true) : d.motorOn = true ∧ d ≠ .locked ∧ d ≠ .parked := by
  cases d with
  | spinningUp | slewing | locking => exact ⟨rfl, nofun, nofun⟩
  | parked | locked | coasting => cases h

theorem Drive.atRest.not_locked (h : s.drive.atRest) : s.drive.drum ≠ .locked := by
  obtain h | h := h <;> rw [h] <;> decide

theorem settle_waiting {causes : List Cause} (hj : s.releasedJob = some j) (hd : s.drive.drum ≠ .locked)
    (hc : s.missingCauses j = causes) (hne : causes ≠ []) :
    settle s =
      if causes = s.queue.missing then s
      else { s with link := s.link.posted [.wait j.number causes], queue := { s.queue with missing := causes } } := by
  have hasks : s.asksCalibration j = false := by simp [State.asksCalibration, State.lockedAtSpeed, hd]
  rw [settle_some hj, autoCalibrate, hasks, if_neg Bool.false_ne_true, startTest, hc, if_neg hne, post_eq]
  rfl

/-- Settles O33: the lock timer, the end of idle hold, and the oldest entry's end by the pending start. -/
theorem driveTimersExpire : Obligations.DriveTimersExpire := by
  intro s hon
  refine ⟨fun m j w hprinter hm hd hp hq hr hj hw hpending hmissing => ?lock, fun m hm hq hc => ?idle,
    fun m rest hs hm hpending => ?dropped, fun m rest w hs hm hpending hload hf hcal hw hd hlen hnow => ?starts,
    fun m rest j hprinter hj hw hwaits hm hpending hload hf hcal hd hlen hnow => ?waits⟩
  case lock =>
    obtain ⟨hmotor, hlocked, hparked⟩ := approaching_motorOn hd
    have hfault := driveFault_wanted (s := advanceTo m s) .timeout hmotor hp hr hq (by simp [advanceTo, hw])
    have htimeout : lockTimeout s = driveFault .timeout (advanceTo m s) := by simp only [lockTimeout, hm]
    have hcauses : .drum :: s.otherCauses j = s.queue.missing := by
      rw [hmissing, missingCauses_unlocked hlocked, hpending]
      rfl
    rw [exec_finish (f := lockTimeout) rfl hon, htimeout, hfault, finish, conclude,
      settle_waiting (by exact hj) (stopMotor_off _) (missingCauses_unlocked (stopMotor_off _) j) nofun,
      if_pos (by exact hcauses), kick_none (by exact hprinter), pump_eq]
    simp [stopMotor, advanceTo, hparked, hpending]
  case idle =>
    rw [exec_pump (f := idleHoldExpiry) rfl hon, idleHoldExpiry_unwanted hm hq hc, idleExpire, lampOff_eq, motorOff_eq, pump_eq]
    simp only [posted_append]
    rfl
  case dropped =>
    rw [exec_finish (f := spinUpEntryExpiry) rfl hon, spinUpEntryExpiry_dropped hm hpending,
      finish_resting (by exact hs)]
    rfl
  case starts =>
    have hwanted : s.drive.wanted = some w := by
      obtain hw | ⟨hq, hw⟩ := hw
      · simp [Drive.wanted, hw]
      · simp [Drive.wanted, hq, hw]
    rw [exec_finish (f := spinUpEntryExpiry) rfl hon,
      spinUpEntryExpiry_starts hm hpending hload hf hcal hwanted hd hlen hnow, finish_resting (by exact hs)]
    rfl
  case waits =>
    have hwanted : s.drive.wanted = some j.speed := by simp [Drive.wanted, hw]
    have hcauses : s.queue.missing = .budget :: s.otherCauses j := by
      rw [hwaits.2, ← missingCauses_eq, missingCauses_unlocked (Drive.atRest.not_locked hd), hpending]
      rfl
    rw [exec_finish (f := spinUpEntryExpiry) rfl hon,
      spinUpEntryExpiry_starts hm hpending hload hf hcal hwanted hd hlen hnow, finish, conclude,
      settle_waiting (j := j) (causes := .drum :: s.otherCauses j) (by exact hj) (by exact nofun) ?drum nofun, if_neg ?new,
      kick_none (by exact hprinter), pump_eq, posted_append]
    case drum => exact missingCauses_unlocked (by exact nofun) j
    case new =>
      intro h
      have h' : Cause.drum :: s.otherCauses j = .budget :: s.otherCauses j := h.trans hcauses
      cases (List.cons.inj h').1
    rw [hcauses]
    rfl

end Sys2Proof.Machine
end

section
/-! PROOFS. The lamp and the temperature (R45, R46, R48, R71, R86), and the start of a job that waits for the lamp. -/

namespace Sys2Proof.Machine

variable {s : State} {m : Moment} {j : Job}

/-- The end of a step in which the RELEASED job meets its last condition and starts (R16, R20). -/
theorem finish_begun (ha : s.awaits j) (hd : s.drive.drum = .locked) (hv : s.drive.lockedAt = some j.speed)
    (hl : s.drive.lamp = .ready) (hf : s.cal.state = .fresh) :
    finish s = { s.begun j with link := (s.link.posted [.start j.number j.passNo]).pumped } := by
  rw [finish, conclude, settle_begun ha hd hv hl hf, kick_none (by exact ha.2.2.2.2), pump_eq]

theorem warmUpExpiry_warm (hl : s.drive.lamp = .warming) (hm : s.drive.warmTimer = some m) :
    warmUpExpiry s =
      { s with
        now := max s.now m
        link := s.link.posted [.lampReady]
        drive := { s.drive with lamp := .ready, warmTimer := none } } := by
  simp only [warmUpExpiry, hl, hm, post_eq]
  rfl

theorem abortRun_none (h : s.cal.run = none) : abortRun s = s := by
  simp only [abortRun, h]

theorem lampCurrentFault_idle (hp : s.sender.pass = none) (hr : s.cal.run = none) :
    lampCurrentFault s =
      if s.drive.lamp = .warming ∨ s.drive.lamp = .ready then
        { s with link := s.link.posted [.lampFault], drive := { s.drive with lamp := .fault, warmTimer := none } }
      else s := by
  have hlit : s.drive.lamp.lit = true ↔ s.drive.lamp = .warming ∨ s.drive.lamp = .ready := by
    cases s.drive.lamp <;> decide
  unfold lampCurrentFault
  refine if_congr hlit ?_ rfl
  rw [failPass_none _ (by exact hp), abortRun_none (by exact hr), post_eq]
  rfl

/-! ### The drift test (R71, R86) -/

/-- A reading lies as far from the temperature of the calibration as the CALDRIFT setting, or farther. -/
def State.drifts (s : State) (temp : Nat) : Prop :=
  s.cal.state = .fresh ∧ ∃ c, s.cal.tcal = some c ∧ (s.settings.calDrift : Int) ≤ |(temp : Int) - c|

theorem drift_iff (limit temp c : Nat) :
    limit ≤ (temp - c) + (c - temp) ↔ (limit : Int) ≤ |(temp : Int) - c| := by
  rw [le_abs]
  omega

theorem calTemperature_steady {temp : Nat} (h : ¬ s.drifts temp) : calTemperature temp s = s := by
  unfold calTemperature
  split
  next c hf hc =>
    exact if_neg fun hd => h ⟨hf, c, hc, (drift_iff ..).mp hd⟩
  next => rfl

theorem calTemperature_drifts {temp : Nat} (h : s.drifts temp) :
    calTemperature temp s =
      { s with
        link := s.link.posted
          (.calStaleDrift :: (s.activeJob.map fun j => Report.lampDrift j.number temp).toList)
        cal := { s.cal with state := .stale }
        scan :=
          if s.anyActive then { s.scan with pass := s.scan.pass.map fun x => { x with drift := true } } else s.scan } := by
  obtain ⟨hf, c, hc, hd⟩ := h
  have hany : s.anyActive = s.activeJob.isSome := (List.isSome_find? ..).symm
  rw [hany]
  cases hj : s.activeJob with
  | none =>
    have hstep : calTemperature temp s = post .calStaleDrift (s.onCal fun c => { c with state := .stale }) := by
      simp only [calTemperature, hf, hc, if_pos ((drift_iff ..).mpr hd), hj]
    rw [hstep, post_eq]
    rfl
  | some j =>
    have hstep : calTemperature temp s =
        post (.lampDrift j.number temp)
          ((post .calStaleDrift (s.onCal fun c => { c with state := .stale })).onScanPass fun x => { x with drift := true }) := by
      simp only [calTemperature, hf, hc, if_pos ((drift_iff ..).mpr hd), hj]
    rw [hstep, post_eq, post_eq]
    refine (congrArg (fun l => State.onLink _ fun _ => l) (posted_append ..)).trans ?_
    rfl

theorem clampTemp_eq (d : Int) : clampTemp d = if d < 0 then 0 else if 99 < d then 99 else d.toNat := by
  unfold clampTemp
  split_ifs <;> omega

theorem temperatureReading_eq (d : Int) (s : State) :
    temperatureReading d s =
      calTemperature (clampTemp d)
        { s with
          now := max s.now s.drive.nextTemp
          drive := { s.drive with temp := clampTemp d, nextTemp := max s.now s.drive.nextTemp + 4000 } } := rfl

/-- Settles O34: the warm-up with and without a job that waits, the current fault, and a reading with its drift. -/
theorem lampAndTemperature : Obligations.LampAndTemperature := by
  refine ⟨fun s m j hon ha hd hv hf hl hm => ?begins, fun s hon hs => ⟨fun m hl hm => ?warm, fun hp hr => ?fault, fun d => ?reading⟩⟩
  case begins =>
    rw [exec_finish (f := warmUpExpiry) rfl hon, warmUpExpiry_warm hl hm,
      finish_begun (j := j) (by exact ha) (by exact hd) (by exact hv) rfl (by exact hf), posted_append]
    rfl
  case warm =>
    rw [exec_finish (f := warmUpExpiry) rfl hon, warmUpExpiry_warm hl hm, finish_resting (by exact hs)]
  case fault =>
    rw [exec_finish (f := lampCurrentFault) rfl hon, lampCurrentFault_idle hp hr]
    split_ifs
    · rw [finish_resting (by exact hs)]
    · rw [finish_resting (by exact hs)]
  case reading =>
    dsimp only
    rw [← clampTemp_eq, exec_finish (f := temperatureReading d) rfl hon, temperatureReading_eq]
    by_cases hd : s.drifts (clampTemp d)
    · rw [calTemperature_drifts (by exact hd), finish_resting (by exact hs)]
      simp only [eq_true (show s.cal.state = .fresh ∧ _ from hd), true_and, if_true, State.activeJob]
      cases s.queue.jobs.find? fun k => k.state == .active <;> rfl
    · rw [calTemperature_steady (by exact hd), finish_resting (by exact hs)]
      simp only [eq_false (show ¬ (s.cal.state = .fresh ∧ _) from hd), false_and, if_false, posted_nil]

end Sys2Proof.Machine
end

section
/-! PROOFS. The index mark in an approach and in LOCKED, with no pass and no calibration (R28 to R32, R35). -/

namespace Sys2Proof.Machine

variable {s t : State} {m : Moment} {j : Job} {v w : Speed} {period : Nat} {l : Link} {d : Drive}

/-! ### A measured revolution of an approach (R28) -/

theorem approachMark_first (h : s.drive.marked = false) :
    approachMark period s = { s with drive := { s.drive with marked := true } } := by
  simp only [approachMark, h, Bool.false_eq_true, if_false]
  rfl

theorem approachMark_measured (h : s.drive.marked = true) (hv : s.drive.target = some v) :
    approachMark period s = serveDrum (measureApproach v period s) := by
  simp only [approachMark, h, if_true, hv, Option.getD_some]

theorem measureApproach_towards (h : s.drive.drum ≠ .locking) :
    measureApproach v period s =
      if withinError 20 v period then
        { s with
          link := s.link.posted [.drum .locking (some v)]
          drive := { s.drive with drum := .locking, lockCount := if withinError 1 v period then 1 else 0 } }
      else s := by
  unfold measureApproach
  rw [if_neg h]
  refine if_congr (withinPermille_iff ..) ?_ rfl
  rw [post_eq]
  refine congrArg (fun n => ({ s with
    link := s.link.posted [.drum .locking (some v)]
    drive := { s.drive with drum := .locking, lockCount := n } } : State)) ?_
  exact if_congr (withinPermille_iff ..) rfl rfl

theorem approachState_eq (a : Option Approach) :
    approachState a = if a = some .slew then .slewing else .spinningUp := by
  cases a with
  | none => rfl
  | some a => cases a <;> rfl

theorem measureApproach_away (h : s.drive.drum = .locking) (hw : ¬ withinError 1 v period) :
    measureApproach v period s =
      if withinError 20 v period then { s with drive := { s.drive with lockCount := 0 } }
      else
        { s with
          link := s.link.posted
            [.drum (if s.drive.approach = some .slew then .slewing else .spinningUp) (some v)]
          drive :=
            { s.drive with
              drum := if s.drive.approach = some .slew then .slewing else .spinningUp
              lockCount := 0 } } := by
  unfold measureApproach
  rw [if_pos h, if_neg ((withinPermille_iff ..).not.mpr hw), post_eq, approachState_eq]
  refine if_congr (withinPermille_iff ..) rfl ?_
  simp only [State.onDrive, approachState_eq]

theorem measureApproach_counts (h : s.drive.drum = .locking) (hw : withinError 1 v period)
    (hc : s.drive.lockCount + 1 < 3) :
    measureApproach v period s = { s with drive := { s.drive with lockCount := s.drive.lockCount + 1 } } := by
  unfold measureApproach
  rw [if_pos h, if_pos ((withinPermille_iff ..).mpr hw), if_pos hc]
  rfl

theorem measureApproach_locks (h : s.drive.drum = .locking) (hw : withinError 1 v period)
    (hc : s.drive.lockCount = 2) :
    measureApproach v period s =
      { s with link := s.link.posted [.drum .locked (some v)], drive := reachLock v s.drive } := by
  unfold measureApproach
  rw [if_pos h, if_pos ((withinPermille_iff ..).mpr hw), if_neg (by omega), post_eq]
  rfl

/-! ### What the wanted speed makes of the drum after it (R35) -/

theorem wanted_eq (d : Drive) : d.wanted = if d.queueWant.isSome then d.queueWant else d.calWant := by
  unfold Drive.wanted
  cases d.queueWant <;> rfl

theorem serveDrum_unwanted (h : s.drive.wanted = none) : serveDrum s = s := by
  unfold serveDrum
  rw [h]
  split_ifs <;> rfl

theorem serveDrum_slews (hd : s.drive.drum = .locked) (hv : s.drive.lockedAt = some v) (hw : s.drive.wanted = some w)
    (hne : w ≠ v) (hload : s.queue.load ≠ .coverOpen) (hf : s.drive.faultHold = false)
    (hcal : s.cal.state ≠ .running) : serveDrum s = slew w s := by
  have hopen : ¬ (s.coverOpen = true ∨ s.drive.faultHold = true ∨ s.cal.state = .running) := by
    simp [coverOpen_eq_false.mpr hload, hf, hcal]
  have hother : ¬ s.drive.lockedAt = some w := by
    rw [hv]
    exact fun h => hne (Option.some.inj h).symm
  simp only [serveDrum, if_neg hopen, hw, hd, if_neg hother]

theorem slew_eq (w : Speed) (s : State) :
    slew w s =
      { s with
        link := s.link.posted [.drum .slewing (some w)]
        drive :=
          { s.drive with
            drum := .slewing
            target := some w
            lockedAt := none
            approach := some .slew
            lockCount := 0
            lossCount := 0
            lockTimer := some (s.now + 20000)
            marked := false } } := by
  unfold slew
  rw [post_eq]
  rfl

/-! ### The mark with nothing behind the drive -/

/-- No pass, no calibration run and no request is in progress: an index mark ends at the drive. -/
structure State.DriveAlone (s : State) : Prop where
  pass : s.sender.pass = none
  scan : s.scan.pass = none
  run : s.cal.run = none
  request : s.cal.request = false

theorem exec_approachMark (hon : s.powered = true) (ha : s.drive.drum.approaching = true) (h : s.DriveAlone)
    (hm : approachMark period s = { s with link := l, drive := d }) :
    exec (.indexMark period) s = .next (finish { s with link := l, drive := openPositions d }) := by
  rw [exec_finish (f := indexMark period) rfl hon]
  simp only [indexMark, ha, if_true, hm]
  rw [handIndex_idle _ _ (by exact h.pass) (by exact h.scan) (by exact h.run) (by exact h.request)]
  rfl

theorem exec_approachMark_resting (hon : s.powered = true) (ha : s.drive.drum.approaching = true) (h : s.DriveAlone)
    (hs : s.resting) (hm : approachMark period s = { s with link := l, drive := d }) :
    exec (.indexMark period) s = .next { s with link := l.pumped, drive := openPositions d } := by
  rw [exec_approachMark hon ha h hm, finish_resting (by exact hs)]

theorem openPositions_unlocked (h : d.drum ≠ .locked) : openPositions d = { d with nextPos := none } := by
  simp [openPositions, h]

theorem openPositions_locked (h : d.drum = .locked) : openPositions d = { d with nextPos := some 0 } := by
  simp [openPositions, h]

/-- A measured revolution that leaves the drum in an approach. -/
theorem exec_measured (hon : s.powered = true) (h : s.DriveAlone) (hs : s.resting)
    (ha : s.drive.drum.approaching = true) (hmark : s.drive.marked = true) (hv : s.drive.target = some v)
    (hm : measureApproach v period s = { s with link := l, drive := d }) (hd : d.drum.approaching = true) :
    exec (.indexMark period) s = .next { s with link := l.pumped, drive := { d with nextPos := none } } := by
  have hkept : approachMark period s = { s with link := l, drive := d } := by
    rw [approachMark_measured hmark hv, hm]
    exact serveDrum_kept (.inl hd)
  rw [exec_approachMark_resting hon ha h hs hkept, openPositions_unlocked (approaching_motorOn hd).2.1]

/-- Settles O35: the first mark, then each measured revolution by its error and by the state of the approach. -/
theorem approachMeasured : Obligations.ApproachMeasured := by
  refine ⟨fun s period j hon ha hd hmark hv hw hc hin hlamp hcal hr hq hp hx => ?starts,
    fun s period v hon hs hp hx hr hq hv => ⟨fun hmark hd => ?first, fun hmark hd => ?towards, fun hmark hd hin => ?away,
      fun hmark hd hin hc => ?counts, fun hmark hd hin hc => ⟨fun hw => ?locks, fun w hw hne hload hf hcal => ?slews⟩⟩⟩
  all_goals
    have halone : s.DriveAlone := ⟨hp, hx, hr, hq⟩
    dsimp only
  case starts =>
    have hkept : approachMark period s =
        { s with link := s.link.posted [.drum .locked (some j.speed)], drive := reachLock j.speed s.drive } := by
      rw [approachMark_measured hmark hv, measureApproach_locks hd hin hc]
      exact serveDrum_kept (.inr ⟨rfl, by simp [Drive.wanted, reachLock, hw]⟩)
    rw [exec_approachMark hon (by rw [hd]; rfl) halone hkept, openPositions_locked rfl,
      finish_begun (j := j) (by exact ha) rfl rfl (by exact hlamp) (by exact hcal), posted_append]
    rfl
  case first =>
    have happroach : s.drive.drum.approaching = true := by obtain hd | hd | hd := hd <;> rw [hd] <;> rfl
    rw [exec_approachMark_resting hon happroach halone hs (approachMark_first hmark),
      openPositions_unlocked (by exact (approaching_motorOn happroach).2.1)]
  case towards =>
    have hmeasured := measureApproach_towards (s := s) (v := v) (period := period)
      (by obtain hd | hd := hd <;> rw [hd] <;> decide)
    have happroach : s.drive.drum.approaching = true := by obtain hd | hd := hd <;> rw [hd] <;> rfl
    by_cases hin : withinError 20 v period
    · rw [if_pos hin] at hmeasured ⊢
      exact exec_measured hon halone hs happroach hmark hv hmeasured rfl
    · rw [if_neg hin] at hmeasured ⊢
      exact exec_measured hon halone hs happroach hmark hv hmeasured happroach
  case away =>
    have happroach : s.drive.drum.approaching = true := by rw [hd]; rfl
    have hmeasured := measureApproach_away hd hin
    by_cases hin : withinError 20 v period
    · rw [if_pos hin] at hmeasured ⊢
      exact exec_measured hon halone hs happroach hmark hv hmeasured happroach
    · rw [if_neg hin] at hmeasured ⊢
      exact exec_measured hon halone hs happroach hmark hv hmeasured (by dsimp only; split_ifs <;> rfl)
  case counts =>
    have happroach : s.drive.drum.approaching = true := by rw [hd]; rfl
    exact exec_measured hon halone hs happroach hmark hv (measureApproach_counts hd hin hc) happroach
  case locks =>
    rw [← wanted_eq] at hw
    have hkept : approachMark period s =
        { s with link := s.link.posted [.drum .locked (some v)], drive := reachLock v s.drive } := by
      rw [approachMark_measured hmark hv, measureApproach_locks hd hin hc]
      obtain hw | hw := hw
      · exact serveDrum_unwanted (by exact hw)
      · exact serveDrum_kept (.inr ⟨rfl, hw.symm⟩)
    rw [exec_approachMark_resting hon (by rw [hd]; rfl) halone hs hkept, openPositions_locked rfl]
    rfl
  case slews =>
    rw [← wanted_eq] at hw
    have hkept := (approachMark_measured hmark hv).trans (congrArg serveDrum (measureApproach_locks hd hin hc))
    rw [serveDrum_slews rfl rfl (by exact hw) hne (by exact hload) (by exact hf) (by exact hcal), slew_eq,
      posted_append] at hkept
    rw [exec_approachMark_resting hon (by rw [hd]; rfl) halone hs hkept, openPositions_unlocked (by exact nofun)]
    rfl

/-! ### LOCKED (R30 to R32) -/

theorem exec_lockedMark_resting (hon : s.powered = true) (hs : s.resting) (h : s.DriveAlone)
    (hd : s.drive.drum = .locked) (hv : s.drive.lockedAt = some v) (hl : withinError 10 v period ∨ s.drive.lossCount = 0) :
    exec (.indexMark period) s = .next { s with link := s.link.pumped, drive := s.drive.judged v period } := by
  rw [exec_lockedMark hon hd hv hl,
    handIndex_idle _ _ (by exact h.pass) (by exact h.scan) (by exact h.run) (by exact h.request),
    finish_resting (by exact hs)]

/-- The second loss in a row is a drive fault of kind LOCK. -/
theorem indexMark_lost (h : s.DriveAlone) (hd : s.drive.drum = .locked) (hv : s.drive.lockedAt = some v)
    (hout : ¬ withinError 10 v period) (hl : s.drive.lossCount = 1) :
    indexMark period s =
      driveFault .lock (s.onDrive fun d => { d with lossCount := 2, nextPos := none }) := by
  have hloss : lossAfter v period s.drive.lossCount = 2 := by
    simp [lossAfter, (withinPermille_false ..).mpr hout, hl]
  simp only [indexMark, hd, DrumState.approaching, Bool.false_eq_true, if_false, if_true, lockedMark, hv, Option.getD_some, hloss,
    le_refl]
  rw [handIndex_idle _ _ (by exact h.pass) (by exact h.scan) (by exact h.run) (by exact h.request)]

/-- A drive fault with no pass, run or request and no want held leaves the fault hold clear. -/
theorem driveFault_unwanted (k : DrumFault) (hm : s.drive.drum.motorOn = true) (h : s.DriveAlone)
    (hq : s.drive.queueWant = none) (hc : s.drive.calWant = none) :
    driveFault k s =
      { s with
        link := s.link.posted [.drumFault k, .drum .coasting none]
        drive := { stopMotor s.drive with faultHold := false, pendingStart := false } } := by
  have hserve : ∀ x : State, x.drive.wanted = none → serve x = x := fun x hx => by
    rw [serve, lampOn, if_neg (by simp [hx]), serveDrum_unwanted hx]
  rw [driveFault_alone k hm h.pass h.run h.request, clearFaultHold, if_pos (by simp [stopMotor, hq]),
    hserve _ (by simp [State.onDrive, stopMotor, Drive.wanted, hq, hc])]
  rfl

/-- Settles O36: the verdict kept, the first loss, and the second, whose fault hold the queue's want keeps set. -/
theorem lockedRevolutionJudged : Obligations.LockedRevolutionJudged := by
  intro s period v hon hs hp hx hr hq hd hv
  have halone : s.DriveAlone := ⟨hp, hx, hr, hq⟩
  refine ⟨fun hin => ?kept, fun hout hl => ?first, fun hout hl hcal => ?second⟩
  case kept =>
    rw [exec_lockedMark_resting hon hs halone hd hv (.inl hin), Drive.judged, if_pos hin]
  case first =>
    rw [exec_lockedMark_resting hon hs halone hd hv (.inr hl), Drive.judged, if_neg hout]
  case second =>
    rw [exec_finish (f := indexMark period) rfl hon, indexMark_lost halone hd hv hout hl]
    cases hw : s.drive.queueWant with
    | none =>
      rw [driveFault_unwanted .lock (by exact (congrArg DrumState.motorOn hd :)) (by exact ⟨hp, hx, hr, hq⟩) (by exact hw)
        (by exact hcal), finish_resting (by exact hs)]
      simp [stopMotor, State.onDrive, hd, hw]
    | some w =>
      rw [driveFault_wanted .lock (by exact (congrArg DrumState.motorOn hd :)) (by exact hp) (by exact hr) (by exact hq)
        (by simp [State.onDrive, hw]), finish_resting (by exact hs)]
      simp [stopMotor, State.onDrive, hd, hw]

end Sys2Proof.Machine
end

section
/-! PROOFS. A calibration run at the index marks (R77 to R82), and the start of a job that waits for it. -/

namespace Sys2Proof.Machine

variable {s t : State} {j : Job} {v : Speed} {period : Nat} {r : CalRun}

/-! ### The gain and the wants -/

/-- The weight of the trial step of a counted revolution, 0 outside 2 to 7 (R79). -/
def stepWeight (n : Nat) : Nat := [0, 0, 32, 16, 8, 4, 2, 1].getD n 0

theorem appliedGain_eq (working counted : Nat) : appliedGain working counted = working + stepWeight counted := by
  unfold appliedGain
  by_cases h : counted < 8
  · interval_cases counted <;> rfl
  · have hweight : stepWeight counted = 0 := by
      unfold stepWeight
      exact List.getD_eq_default _ _ (by simpa using h)
    rw [if_neg (by omega), hweight, Nat.add_zero]

theorem trialWeight_eq {counted : Nat} (h2 : 2 ≤ counted) (h7 : counted ≤ 7) :
    trialWeight counted = stepWeight counted := by
  interval_cases counted <;> rfl

theorem withinError_mono {a b : Nat} (hab : a ≤ b) (h : withinError a v period) : withinError b v period := by
  have hlimit : (a : Int) * 60000 ≤ b * 60000 := by omega
  exact le_trans h (by exact_mod_cast hlimit)

/-- The drive after the Calibration Unit's want was withdrawn, the only one held. -/
def Drive.calUnwanted (d : Drive) (idleEnds : Moment) : Drive :=
  { d with calWant := none, pendingStart := false, idleTimer := some idleEnds }

theorem withdrawCalWant_only (hc : s.drive.calWant.isSome) (hq : s.drive.queueWant = none) (hi : s.settings.idle ≠ 0) :
    withdrawCalWant s = { s with drive := s.drive.calUnwanted (s.now + 1000 * s.settings.idle) } := by
  obtain ⟨w, hw⟩ := Option.isSome_iff_exists.mp hc
  simp [withdrawCalWant, hw, wantWithdrawn, State.onDrive, Drive.wanted, hq, beginIdle, hi, Drive.calUnwanted]

/-- With the queue's want served as it stands, the withdrawal of the unit's want changes nothing else. -/
theorem withdrawCalWant_served (hq : s.drive.queueWant = some v) (hl : s.drive.lamp ≠ .off)
    (hd : s.drive.drum = .locked) (hv : s.drive.lockedAt = some v) :
    withdrawCalWant s = { s with drive := { s.drive with calWant := none } } := by
  unfold withdrawCalWant
  cases hc : s.drive.calWant with
  | none =>
    rw [Option.isNone_none, if_pos rfl, ← hc]
  | some w =>
    have hserve : serve (s.onDrive fun d => { d with calWant := none }) = s.onDrive fun d => { d with calWant := none } :=
      serve_kept hl (.inr ⟨hd, by simp [State.onDrive, Drive.wanted, hq, hv]⟩)
    simp only [Option.isNone_some, Bool.false_eq_true, if_false, wantWithdrawn, hserve]
    rw [if_neg (by simp [State.onDrive, Drive.wanted, hq])]
    rfl

/-! ### The mark at the Calibration Unit -/

/-- With no pass in progress an index mark in LOCKED is the Calibration Unit's. -/
theorem handIndex_calibration (locked good : Bool) (hp : s.sender.pass = none) (hx : s.scan.pass = none) :
    handIndex locked good s = calIndex locked good s := by
  have h : s.onScan (closeLine good) = s := by simp only [State.onScan, closeLine, hx]
  simp [handIndex, h, senderIndex, hp, beginLine, hx]

theorem exec_calibrationMark (hon : s.powered = true) (hp : s.sender.pass = none) (hx : s.scan.pass = none)
    (hd : s.drive.drum = .locked) (hv : s.drive.lockedAt = some v) (hl : withinError 10 v period ∨ s.drive.lossCount = 0)
    (ht : calIndex true (withinPermille 3 v period) { s with drive := s.drive.judged v period } = t) :
    exec (.indexMark period) s = .next (finish t) := by
  rw [exec_lockedMark hon hd hv hl, handIndex_calibration _ _ (by exact hp) (by exact hx), ht]

theorem calIndex_begins (hr : s.cal.run = none) (hq : s.cal.request = true) (hl : s.drive.lamp = .ready)
    (ha : s.anyActive = false) (hs : s.cal.state ≠ .running) (good : Bool) :
    calIndex true good s =
      { s with
        link := s.link.posted [.calRunning]
        cal :=
          { s.cal with
            state := .running
            gain := 0
            run := some ⟨s.cal.gain, s.cal.state, 0, 1, 0, 0, 0, none⟩ } } := by
  have hmay : runMayBegin true s = true := by simp [runMayBegin, hq, hl, ha, hs]
  simp only [calIndex, hr, hmay, if_true, beginRun, post_eq]
  rfl

theorem calIndex_good (hr : s.cal.run = some r) (locked : Bool) : calIndex locked true s = completeStep r s := by
  simp only [calIndex, hr, if_true]

theorem calIndex_spoiled (hr : s.cal.run = some r) (locked : Bool) : calIndex locked false s = spoiledStep r s := by
  simp only [calIndex, hr, Bool.false_eq_true, if_false]

theorem openRevolution_eq (r : CalRun) (s : State) :
    openRevolution r s =
      { s with
        cal :=
          { s.cal with
            gain := r.working + stepWeight r.counted
            run := some { r with whiteSum := 0, blackSum := 0, means := none } } } := by
  unfold openRevolution
  rw [appliedGain_eq]
  rfl

theorem completeStep_settles (h : r.counted = 1) : completeStep r s = openRevolution { r with counted := 2 } s := by
  simp [completeStep, h]

theorem completeStep_trial {w b : Nat} (h2 : 2 ≤ r.counted) (h7 : r.counted ≤ 7) (hm : r.means = some (w, b)) :
    completeStep r s =
      openRevolution
        { r with
          working := if w ≤ 3600 then r.working + stepWeight r.counted else r.working
          counted := r.counted + 1 } s := by
  unfold completeStep
  rw [if_neg (by omega), hm, ← trialWeight_eq h2 h7]
  simp only [if_pos h7]

theorem calChecks_iff (w b : Nat) :
    calChecks w b = true ↔ 3400 ≤ w ∧ w ≤ 3800 ∧ b ≤ 900 ∧ b + 2000 ≤ w := by
  simp [calChecks, and_assoc]

theorem completeStep_checks {w b : Nat} (h : r.counted = 8) (hm : r.means = some (w, b)) :
    completeStep r s =
      if 3400 ≤ w ∧ w ≤ 3800 ∧ b ≤ 900 ∧ b + 2000 ≤ w then passRun r w b s else failRun r s := by
  unfold completeStep
  rw [if_neg (by omega), hm]
  dsimp only
  rw [if_neg (by omega)]
  exact if_congr (calChecks_iff w b) rfl rfl

theorem passRun_eq (r : CalRun) (w b : Nat) (s : State) :
    passRun r w b s =
      withdrawCalWant
        { s with
          link := s.link.posted [.calOk r.working w b]
          cal := ⟨.fresh, r.working, w, b, some s.drive.temp, false, none⟩ } := by
  unfold passRun endRequest
  rw [post_eq]
  rfl

theorem failRun_eq (r : CalRun) (s : State) :
    failRun r s =
      withdrawCalWant
        { s with
          link := s.link.posted [.calFail]
          cal := { s.cal with state := .failed, gain := r.savedStep, request := false, run := none } } := by
  unfold failRun endRequest
  rw [post_eq]
  rfl

/-- The jobs with the calibration-tried flag of the RELEASED one cleared (R82). -/
def untried (jobs : List Job) : List Job := jobs.map fun j => if j.state = .released then { j with calTried := false } else j

theorem untried_unreleased (h : s.releasedJob = none) : untried s.queue.jobs = s.queue.jobs := by
  have hn := not_released_of_none h
  exact (List.map_congr_left fun j hj => if_neg (hn j hj)).trans (List.map_id _)

theorem abortRun_eq (hr : s.cal.run = some r) :
    abortRun s =
      withdrawCalWant
        { s with
          link := s.link.posted [.calAbort]
          queue := { s.queue with jobs := untried s.queue.jobs }
          cal :=
            { s.cal with
              state := if r.savedState = .fresh ∧ s.drive.lamp = .off then .stale else r.savedState
              gain := r.savedStep
              request := false
              run := none } } := by
  simp only [abortRun, hr, endRequest, post_eq]
  rfl

theorem spoiledStep_goes_on (h : r.spoiled < 7) : spoiledStep r s = openRevolution { r with spoiled := r.spoiled + 1 } s := by
  rw [spoiledStep, if_neg (by omega)]

theorem spoiledStep_aborts (h : r.spoiled = 7) : spoiledStep r s = abortRun s := by
  rw [spoiledStep, if_pos (by omega)]

theorem exec_goodRevolution (hon : s.powered = true) (hp : s.sender.pass = none) (hx : s.scan.pass = none)
    (hd : s.drive.drum = .locked) (hv : s.drive.lockedAt = some v) (hin : withinError 3 v period)
    (hr : s.cal.run = some r) (ht : completeStep r { s with drive := s.drive.judged v period } = t) :
    exec (.indexMark period) s = .next (finish t) := by
  refine exec_calibrationMark hon hp hx hd hv (.inl (withinError_mono (by decide) hin)) ?_
  rw [(withinPermille_iff ..).mpr hin]
  exact (calIndex_good (by exact hr) true).trans ht

theorem exec_spoiledRevolution (hon : s.powered = true) (hp : s.sender.pass = none) (hx : s.scan.pass = none)
    (hd : s.drive.drum = .locked) (hv : s.drive.lockedAt = some v) (hl : withinError 10 v period ∨ s.drive.lossCount = 0)
    (hout : ¬ withinError 3 v period) (hr : s.cal.run = some r)
    (ht : spoiledStep r { s with drive := s.drive.judged v period } = t) :
    exec (.indexMark period) s = .next (finish t) := by
  refine exec_calibrationMark hon hp hx hd hv hl ?_
  rw [(withinPermille_false ..).mpr hout]
  exact (calIndex_spoiled (by exact hr) true).trans ht

/-- Settles O37: the beginning of a run, its revolutions by their count, and the spoiled ones. -/
theorem calibrationRunStepped : Obligations.CalibrationRunStepped := by
  refine ⟨fun s period j r w b hon ha hp hx hd hv hq hl hr hin hc hm h1 h2 h3 h4 => ?starts,
    fun s period v hon hs hp hx hd hv hl hloss hq hw hidle => ⟨fun hr hreq hact hstate => ?begins,
      fun r hr hin => ⟨fun hc => ?settling, fun w b h2 h7 hm => ?trial, fun w b hc hm => ?checks⟩,
      fun r hr hout => ⟨fun hsp => ?spoiled, fun hsp => ?aborts⟩⟩⟩
  case starts =>
    let u : State := { s with drive := s.drive.judged j.speed period }
    have hpass := (completeStep_checks (s := u) hc hm).trans (if_pos ⟨h1, h2, h3, h4⟩)
    rw [passRun_eq, withdrawCalWant_served (by exact hq) (by simp [u, Drive.judged, hl]) (by exact hd) (by exact hv)] at hpass
    rw [exec_goodRevolution hon hp hx hd hv hin hr hpass,
      finish_begun (j := j) (by exact ha) (by exact hd) (by exact hv) (by exact hl) rfl, posted_append]
    simp only [u, Drive.judged, if_pos (withinError_mono (by decide) hin : withinError 10 j.speed period)]
    rfl
  all_goals
    dsimp only
    let u : State := { s with drive := s.drive.judged v period }
  case begins =>
    have hmark := calIndex_begins (s := u) hr hreq hl hact hstate (withinPermille 3 v period)
    rw [exec_calibrationMark hon hp hx hd hv hloss hmark, finish_resting (by exact hs)]
    rfl
  case settling =>
    have hstep := (completeStep_settles (s := u) hc).trans (openRevolution_eq ..)
    rw [exec_goodRevolution hon hp hx hd hv hin hr hstep, finish_resting (by exact hs)]
    rfl
  case trial =>
    have hstep := (completeStep_trial (s := u) h2 h7 hm).trans (openRevolution_eq ..)
    rw [exec_goodRevolution hon hp hx hd hv hin hr hstep, finish_resting (by exact hs)]
    rfl
  case checks =>
    have hstep := completeStep_checks (s := u) hc hm
    rw [passRun_eq, failRun_eq, withdrawCalWant_only (by exact hw) (by exact hq) (by exact hidle),
      withdrawCalWant_only (by exact hw) (by exact hq) (by exact hidle)] at hstep
    rw [exec_goodRevolution hon hp hx hd hv hin hr hstep]
    by_cases hok : 3400 ≤ w ∧ w ≤ 3800 ∧ b ≤ 900 ∧ b + 2000 ≤ w
    · rw [if_pos hok, if_pos hok, finish_resting (by exact hs)]
      rfl
    · rw [if_neg hok, if_neg hok, finish_resting (by exact hs)]
      rfl
  case spoiled =>
    have hstep := (spoiledStep_goes_on (s := u) hsp).trans (openRevolution_eq ..)
    rw [exec_spoiledRevolution hon hp hx hd hv hloss hout hr hstep, finish_resting (by exact hs)]
    rfl
  case aborts =>
    have hstep := (spoiledStep_aborts (s := u) hsp).trans (abortRun_eq hr)
    rw [withdrawCalWant_only (by exact hw) (by exact hq) (by exact hidle), untried_unreleased (by exact hs.1),
      if_neg (by simp [u, Drive.judged, hl])] at hstep
    rw [exec_spoiledRevolution hon hp hx hd hv hloss hout hr hstep, finish_resting (by exact hs)]
    rfl

end Sys2Proof.Machine
end

section
/-! PROOFS. What the slot record is decided as (R98 to R101). -/

namespace Sys2Proof.Machine

/-- With rounds stopped there is no slot record to change (R98). -/
theorem onRounds_none (f : Rounds → Rounds) {s : State} (h : s.circuit.rounds = none) : onRounds f s = s := by
  have hsame : { s.circuit with rounds := none } = s.circuit := by rw [← h]
  simp only [onRounds, State.onCircuit, h, Option.map_none, hsame]

theorem onRounds_eq (f : Rounds → Rounds) {s : State} {r : Rounds} (h : s.circuit.rounds = some r) :
    onRounds f s = { s with circuit := { s.circuit with rounds := some (f r) } } := by
  simp only [onRounds, State.onCircuit, h, Option.map_some]

theorem appendChar_eq (ch : ReturnChar) (r : Rounds) :
    appendChar ch r = { r with chars := if r.chars.length < 3 then r.chars ++ [ch] else r.chars } := by
  unfold appendChar
  split <;> rfl

/-- The letters of the six reply kinds by their places in the alphabet (R101). -/
theorem kindLetter_iff (i : Nat) (k : ReplyKind) :
    kindLetter i = some k ↔
      (i, k) ∈ [(17, .ready), (10, .ok), (13, .noise), (18, .stop), (2, .received), (16, ReplyKind.repeatPass)] := by
  unfold kindLetter
  simp only [List.mem_cons, Prod.mk.injEq, List.not_mem_nil, or_false]
  split_ifs <;> subst_vars <;> simp_all [eq_comm]

/-- The record holds the owner's letter and a kind letter, and no more (R101). -/
def Rounds.bears (r : Rounds) (k : ReplyKind) : Prop :=
  ∃ a b : Fin 26, r.chars = [.letter a, .letter b] ∧ a.val = r.slot ∧
    ((b.val : Nat), k) ∈
      [(17, .ready), (10, .ok), (13, .noise), (18, .stop), (2, .received), (16, ReplyKind.repeatPass)]

theorem decideSlot_break {r : Rounds} (h : r.breakSeen = true) : decideSlot r = .empty := by
  simp [decideSlot, h]

theorem decideSlot_nothing {r : Rounds} (hcarrier : r.carrier = false) (hchars : r.chars = []) :
    decideSlot r = .empty := by
  simp [decideSlot, hcarrier, hchars]

theorem decideSlot_reply {r : Rounds} {k : ReplyKind} (hbreak : r.breakSeen = false) (h : r.bears k) :
    decideSlot r = .reply k := by
  obtain ⟨a, b, hchars, howner, hkind⟩ := h
  simp [decideSlot, hbreak, hchars, howner, (kindLetter_iff _ _).mpr hkind]

/-- Without break a record is decided EMPTY only where it holds nothing, and as a reply only where it bears it. -/
theorem decideSlot_garbled {r : Rounds} (hbreak : r.breakSeen = false)
    (hsome : r.carrier = true ∨ r.chars ≠ []) (hnone : ∀ k, ¬ r.bears k) : decideSlot r = .garbled := by
  unfold decideSlot
  rw [hbreak, if_neg nofun]
  split
  next hchars => rw [hsome.resolve_right (not_not_intro hchars), if_pos rfl]
  next a b hchars =>
    split
    next howner =>
      split
      next k hkind => exact absurd ⟨a, b, hchars, howner, (kindLetter_iff _ _).mp hkind⟩ (hnone k)
      next => rfl
    next => rfl
  next => rfl

/-- Settles O44: the record changed under rounds alone, and the four ways a record is decided. -/
theorem slotRecordDecided : Obligations.SlotRecordDecided := by
  refine ⟨fun s ch hon => ⟨fun hstopped => ?_, fun r hrounds => ?_⟩, fun r => ?_⟩
  · exact ⟨(live_on _ hon).trans (congrArg _ (onRounds_none _ hstopped)),
      (live_on _ hon).trans (congrArg _ (onRounds_none _ hstopped))⟩
  · exact ⟨(live_on _ hon).trans (congrArg _ (onRounds_eq _ hrounds)),
      (live_on _ hon).trans (congrArg _ ((onRounds_eq _ hrounds).trans (by rw [appendChar_eq])))⟩
  · exact ⟨decideSlot_break, decideSlot_nothing, fun _ => decideSlot_reply, decideSlot_garbled⟩

end Sys2Proof.Machine
end

section
/-! PROOFS. A pass closed (R131, R21), and a failure reason by the pass's stage (R144, R147). -/

namespace Sys2Proof.Machine

variable {s t : State} {p : Pass} {o : PassOutcome} {r : Reason} {m : Moment}

/-! ### The record of a closed pass (R156, R157) -/

/-- A pass entry after the close of its record's pass: one in progress takes the close. -/
def PassEntry.settledBy (c : PassClose) (e : PassEntry) : PassEntry :=
  if e.close.isSome then e else { e with close := some c }

theorem PassEntry.complete_eq (c : PassClose) (e : PassEntry) : e.complete c = e.settledBy c := by
  unfold PassEntry.complete PassEntry.settledBy PassEntry.inProgress
  cases e.close <;> rfl

theorem PassEntry.settledBy_closed (c : PassClose) (e : PassEntry) : (e.settledBy c).close.isSome = true := by
  unfold PassEntry.settledBy
  cases h : e.close <;> simp [h]

/-- The log with the pass in progress of one job closed. -/
def settledLog (job : Nat) (c : PassClose) (log : List Record) : List Record :=
  log.map fun r => if r.job = job then { r with passes := r.passes.map (·.settledBy c) } else r

/-- The pass is completed while its job stands in the queue: the record stays open. -/
theorem completePass_queued (hj : (s.findJob p.job).isSome) :
    completePass p o s =
      { s with
        receipts :=
          { s.receipts with
            log := settledLog p.job (passClose p o s) s.receipts.log
            slips := s.receipts.slips ++ slipEntries s.settings.copies p.job p.number } } := by
  have hsettled : PassEntry.complete (passClose p o s) = (·.settledBy (passClose p o s)) :=
    funext fun e => e.complete_eq _
  unfold completePass closeRecord
  rw [if_pos (by exact hj), hsettled]
  rfl

theorem recordsClosed_settled (n : Nat) (c : PassClose) (log : List Record) :
    recordsClosed n (settledLog n c log) =
      log.map fun r =>
        if r.job = n then { r with passes := r.passes.map (·.settledBy c), isOpen := false } else r := by
  unfold recordsClosed settledLog
  rw [List.map_map]
  refine List.map_congr_left fun r _ => ?_
  by_cases hr : r.job = n
  · simp [Function.comp_apply, hr, PassEntry.settledBy_closed]
  · simp [Function.comp_apply, hr]

/-- The close that a pass takes from the state in which its scanning and its rounds stopped. -/
theorem passClose_stopped (p : Pass) (o : PassOutcome) (s : State) :
    passClose p.closed o (stopRounds (scanEnd s)) =
      { stamp := s.backup.clock
        outcome := o
        reason := p.reason
        secondary := p.secondary
        counts := some (passCounts p s)
        slip := if s.settings.copies = 0 then .skipped else .pending
        results := p.party.map fun e =>
          { station := e.station
            name := e.name
            final := some (if e.state = .invited then .absent else if e.state = .joined then .noReceipt else e.state)
            noise := some (s.station e.station).noise } } := by
  have hcounts : passCounts p.closed (stopRounds (scanEnd s)) = passCounts p s := by
    cases hx : s.scan.pass with
    | none => simp [passCounts, stopRounds, applyMask, State.onCircuit, scanEnd_eq, Scan.over, hx, Pass.closed]
    | some x =>
      cases he : x.ended <;>
        simp [passCounts, stopRounds, applyMask, State.onCircuit, scanEnd_eq, Scan.over, hx, he, Pass.closed]
  unfold passClose
  rw [hcounts]
  simp only [partyResults, station_stopRounds_noise, Pass.closed, List.map_map, Function.comp_def,
    PartyState.closed_eq]
  rfl

/-! ### The close of a pass that is not detached (R131, R21) -/

/-- The queue's job of a number, ACTIVE, leaves by a kill: its wants withdrawn, the print unbound. -/
theorem passEndQueue_killed {n : Nat} {j : Job} (hj : s.findJob n = some j) (ha : j.state = .active)
    (hl : s.queue.load ≠ .coverOpen) (hq : s.drive.queueWant.isSome) (hc : s.drive.calWant = none)
    (hi : s.settings.idle ≠ 0) :
    passEndQueue n .killed s =
      { s with
        link := s.link.posted [.loadUnbound]
        receipts := { s.receipts with log := recordsClosed n s.receipts.log }
        queue := ⟨s.jobsWithout n, .unbound, []⟩
        drive := s.drive.unwanted (s.now + 1000 * s.settings.idle) } := by
  obtain rfl := findJob_number hj
  have hleaves : passEndQueue j.number .killed s = leaveQueue j (withdrawQueueWant s) := by
    have hstill : (withdrawQueueWant s).findJob j.number = some j := by
      rw [withdrawQueueWant_only hq hc hi]
      exact hj
    simp only [passEndQueue, if_true, hstill]
  rw [hleaves, withdrawQueueWant_only hq hc hi]
  exact leaveQueue_bound (by rw [ha]; decide) hl (withdrawQueueWant_none rfl)

theorem passEndQueue_finished {n : Nat} (ho : o ≠ .killed) (hq : s.drive.queueWant.isSome)
    (hc : s.drive.calWant = none) (hi : s.settings.idle ≠ 0) :
    passEndQueue n o s =
      { s with
        queue :=
          { s.queue with
            jobs := s.queue.jobs.map fun k => if k.number = n then { k with state := .finished } else k }
        drive := s.drive.unwanted (s.now + 1000 * s.settings.idle) } := by
  unfold passEndQueue
  rw [withdrawQueueWant_only hq hc hi]
  dsimp only
  rw [if_neg ho]
  rfl

/-- The pass closed at the Sender, the Scan Unit and the Circuit Unit, `u` being left by queue and record. -/
def State.passClosed (s u : State) : State :=
  { u with
    scan := { s.scan.over with pass := none }
    circuit := (stopRounds s).circuit
    sender := ⟨if s.breakPresent then .broken else .free, none, .silent, none⟩ }

/-- The record, the slip queue and the log after the pass `p` of a job in the queue ended. -/
def State.receiptsEnded (s : State) (p : Pass) (o : PassOutcome) : Receipts :=
  { s.receipts with
    log := settledLog p.job (passClose p.closed o (stopRounds (scanEnd s))) s.receipts.log
    slips := s.receipts.slips ++ slipEntries s.settings.copies p.job p.number }

section Attached

variable (hp : s.sender.pass = some p) (ho : p.outcome.getD .failed = o) (hd : p.detached = false)
  (hq : s.drive.queueWant.isSome) (hc : s.drive.calWant = none) (hi : s.settings.idle ≠ 0)

include hp ho hd hq hc hi

theorem closePass_finished (hn : o ≠ .killed) (hj : (s.findJob p.job).isSome) :
    closePass s =
      s.passClosed
        { s with
          link := s.link.posted [.passEnd p.job p.number o p.reason]
          queue :=
            { s.queue with
              jobs := s.queue.jobs.map fun k => if k.number = p.job then { k with state := .finished } else k }
          drive := s.drive.unwanted (s.now + 1000 * s.settings.idle)
          receipts := s.receiptsEnded p o } := by
  simp only [closePass, hp, ho, hd, Bool.false_eq_true, if_false]
  rw [completePass_queued (s := stopRounds (scanEnd s)) (by exact hj), post_eq,
    passEndQueue_finished hn (by exact hq) (by exact hc) (by exact hi)]
  rfl

theorem closePass_killed (hk : o = .killed) {j : Job} (hj : s.findJob p.job = some j) (ha : j.state = .active)
    (hl : s.queue.load ≠ .coverOpen) :
    closePass s =
      s.passClosed
        { s with
          link := s.link.posted [.passEnd p.job p.number o p.reason, .loadUnbound]
          queue := ⟨s.jobsWithout p.job, .unbound, []⟩
          drive := s.drive.unwanted (s.now + 1000 * s.settings.idle)
          receipts :=
            { s.receiptsEnded p o with log := recordsClosed p.job (s.receiptsEnded p o).log } } := by
  simp only [closePass, hp, ho, hd, Bool.false_eq_true, if_false]
  have hsome : (s.findJob p.job).isSome := by rw [hj]; rfl
  rw [completePass_queued (s := stopRounds (scanEnd s)) (by exact hsome), post_eq, hk,
    passEndQueue_killed (by exact hj) ha (by exact hl) (by exact hq) (by exact hc) (by exact hi)]
  simp only [posted_append, List.cons_append, List.nil_append]
  rfl

end Attached

/-! ### The step at whose end a pass is closed -/

theorem closePass_cal (hp : s.sender.pass = some p) (hh : s.holdsJob p) : (closePass s).cal = s.cal := by
  cases hd : p.detached with
  | true => rw [closePass_detached hp hd]
  | false =>
    obtain ⟨hl, hj, hq, hc, hi⟩ := hh hd
    obtain ⟨j, hf, ha⟩ := Option.map_eq_some_iff.mp hj
    by_cases hk : p.outcome.getD .failed = .killed
    · rw [closePass_killed hp rfl hd hq hc hi hk hf ha hl]
      rfl
    · rw [closePass_finished hp rfl hd hq hc hi hk (by rw [show s.findJob p.job = some j from hf]; rfl)]
      rfl

theorem closes_releasedJob (h : s.closes t p o) (hr : s.releasedJob = none) : t.releasedJob = none := by
  obtain ⟨_, _, _, _, _, _, hqueue, _⟩ := h
  cases hd : p.detached with
  | true =>
    rw [hd, if_pos rfl] at hqueue
    unfold State.releasedJob at hr ⊢
    rw [hqueue, hr]
  | false =>
    rw [hd, if_neg nofun] at hqueue
    by_cases ho : o = .killed
    · rw [if_pos ho] at hqueue
      exact releasedJob_filter (s := s) _ (by rw [hqueue]) fun k hk hs => absurd hs (not_released_of_none hr k hk)
    · rw [if_neg ho] at hqueue
      refine releasedJob_map (s := s) (by rw [hqueue]) hr fun k hk => ?_
      split
      · nofun
      · exact hk

/-- A step that ends with the close of a pass, no job being RELEASED. -/
theorem finish_closed (hp : s.sender.pass = some p) (ho : p.outcome.getD .failed = o) (hh : s.holdsJob p)
    (hr : s.releasedJob = none) :
    (finish (closePass s)).now = s.now ∧
      (finish (closePass s)).link = (s.link.posted (p.endReports o p.reason)).pumped ∧
      s.closes (finish (closePass s)) p o := by
  obtain ⟨hlink, hnow, hcloses⟩ := closePass_closes hp ho hh
  rw [finish_unreleased (closes_releasedJob hcloses hr)]
  exact ⟨hnow, congrArg Link.pumped hlink, hcloses⟩

/-! ### A failure reason by the stage (R144, R147) -/

theorem failPass_unsent (hp : s.sender.pass = some p) (h : s.unsent p) :
    failPass r s = terminate .failed (some r) false s := by
  simp [failPass, hp, stage_unsent hp h]

theorem failPass_sending (hp : s.sender.pass = some p) (h : s.midPicture p) :
    failPass r s = terminate .failed (some r) (!p.breakReason) s := by
  simp [failPass, hp, stage_sending hp h]

theorem failPass_sent (hp : s.sender.pass = some p) (h : s.sentInFull p) :
    failPass r s = if r = .breakTimeout then terminate .failed (some r) false s else secondFault r s := by
  simp [failPass, hp, stage_sent hp h]

theorem failPass_killing (hp : s.sender.pass = some p) (h : s.sender.circ = .killing) :
    failPass r s = secondFault r s := by
  simp [failPass, hp, stage_killing hp h]

/-- The pass as a failure that closes it at once leaves its record. -/
def State.failed (s : State) (p : Pass) (r : Reason) : State :=
  { s with sender := { s.sender with pass := some (p.decided .failed (some r)) } }

/-- The pass put into KILLING with a failure reason (R144, R146). -/
def State.failing (s : State) (p : Pass) (r : Reason) : State :=
  { s with
    scan := s.scan.over
    sender := ⟨.killing, some (p.decided .failed (some r)), .kill s.now, some (s.now + Config.signalTime)⟩ }

theorem failPass_closes (hp : s.sender.pass = some p)
    (h : s.unsent p ∨ (s.midPicture p ∧ p.breakReason = true)) : failPass r s = closePass (s.failed p r) := by
  obtain h | ⟨h, hb⟩ := h
  · rw [failPass_unsent hp h, terminate_close _ _ hp]
    rfl
  · rw [failPass_sending hp h, hb, Bool.not_true, terminate_close _ _ hp]
    rfl

theorem failPass_signals (hp : s.sender.pass = some p) (h : s.midPicture p) (hb : p.breakReason = false) :
    failPass r s = s.failing p r := by
  rw [failPass_sending hp h, hb, Bool.not_false, terminate_signal _ _ hp]
  rfl

theorem failPass_breakTimeout_sent (hp : s.sender.pass = some p) (h : s.sentInFull p) :
    failPass .breakTimeout s = closePass (s.failed p .breakTimeout) := by
  rw [failPass_sent hp h, if_pos rfl, terminate_close _ _ hp]
  rfl

theorem failPass_second (hp : s.sender.pass = some p) (h : s.sentInFull p ∨ s.sender.circ = .killing)
    (hr : r ≠ .breakTimeout) :
    failPass r s =
      { s with sender := { s.sender with pass := some { p with secondary := some (p.secondary.getD r) } } } := by
  have hsecond : failPass r s = secondFault r s := by
    obtain h | h := h
    · rw [failPass_sent hp h, if_neg hr]
    · exact failPass_killing hp h
  rw [hsecond, secondFault, onPass_eq hp]

end Sys2Proof.Machine
end

section
/-! PROOFS. The lamp fault as a failure reason by the pass's stage (R46, R144, R147). -/

namespace Sys2Proof.Machine

variable {s t : State} {p : Pass} {o : PassOutcome} {r : Reason}

/-! ### What the lamp fault leaves, whatever the pass's stage -/

/-- The lamp faulted, no calibration run and no RELEASED job: what the end of a pass keeps, the IDLE setting being
such that no idle hold ends with it. -/
structure State.Dark (s : State) : Prop where
  lamp : s.drive.lamp = .fault
  warmTimer : s.drive.warmTimer = none
  idle : s.settings.idle ≠ 0
  run : s.cal.run = none
  released : s.releasedJob = none

theorem State.Dark.congr (h : s.Dark) (hl : t.drive.lamp = s.drive.lamp) (hw : t.drive.warmTimer = s.drive.warmTimer)
    (hs : t.settings = s.settings) (hc : t.cal = s.cal) (hr : t.releasedJob = none) : t.Dark where
  lamp := hl.trans h.lamp
  warmTimer := hw.trans h.warmTimer
  idle := by rw [hs]; exact h.idle
  run := by rw [hc]; exact h.run
  released := hr

theorem State.Dark.onDrive (h : s.Dark) {f : Drive → Drive} (hl : (f s.drive).lamp = s.drive.lamp)
    (hw : (f s.drive).warmTimer = s.drive.warmTimer) : (s.onDrive f).Dark :=
  h.congr hl hw rfl rfl h.released

theorem spinUp_dark (v : Speed) (h : s.Dark) : (spinUp v s).Dark := by
  unfold spinUp
  dsimp only
  split
  · exact ⟨h.lamp, h.warmTimer, h.idle, h.run, h.released⟩
  · exact ⟨h.lamp, h.warmTimer, h.idle, h.run, h.released⟩

theorem serveDrum_dark (h : s.Dark) : (serveDrum s).Dark := by
  unfold serveDrum
  split
  · exact h
  · split
    next => exact h
    next v _ =>
      split
      · split
        · exact h
        · exact spinUp_dark v h
      · split
        · exact h
        · exact spinUp_dark v h
      · exact h
      · exact h
      · exact h
      · split
        · exact h
        · exact ⟨h.lamp, h.warmTimer, h.idle, h.run, h.released⟩

theorem wantWithdrawn_dark (h : s.Dark) : (wantWithdrawn s).Dark := by
  unfold wantWithdrawn
  split
  · unfold beginIdle
    dsimp only
    rw [if_neg h.idle]
    exact h.onDrive rfl rfl
  · have hon : lampOn s = s := if_neg fun hoff => by
      have hlamp := h.lamp.symm.trans hoff.1
      cases hlamp
    rw [serve, hon]
    exact serveDrum_dark h

theorem withdrawQueueWant_dark (h : s.Dark) : (withdrawQueueWant s).Dark := by
  unfold withdrawQueueWant
  split
  · exact h
  · exact wantWithdrawn_dark (h.onDrive rfl rfl)

theorem closeRecord_dark (n : Nat) (h : s.Dark) : (closeRecord n s).Dark := by
  rw [closeRecord_frame]
  exact ⟨h.lamp, h.warmTimer, h.idle, h.run, h.released⟩

theorem leaveQueue_dark (j : Job) (h : s.Dark) : (leaveQueue j s).Dark := by
  have hgone : (s.onQueue fun q => { q with jobs := q.jobs.filter fun k => k.number != j.number }).Dark :=
    h.congr rfl rfl rfl rfl
      (releasedJob_filter (s := s) _ rfl fun k hk hs => absurd hs (not_released_of_none h.released k hk))
  unfold leaveQueue
  refine closeRecord_dark _ ?_
  split
  · exact hgone
  · have hwithdrawn := withdrawQueueWant_dark
      (s := (s.onQueue fun q => { q with jobs := q.jobs.filter fun k => k.number != j.number }).onQueue
        fun q => { q with missing := [] }) (hgone.congr rfl rfl rfl rfl hgone.released)
    dsimp only
    split
    · exact hwithdrawn
    · exact hwithdrawn.congr rfl rfl rfl rfl hwithdrawn.released

theorem passEndQueue_dark (n : Nat) (o : PassOutcome) (h : s.Dark) : (passEndQueue n o s).Dark := by
  have hwithdrawn := withdrawQueueWant_dark h
  unfold passEndQueue
  dsimp only
  split
  · split
    · exact hwithdrawn
    · exact leaveQueue_dark _ hwithdrawn
  · refine hwithdrawn.congr rfl rfl rfl rfl ?_
    refine releasedJob_map (s := withdrawQueueWant s) rfl hwithdrawn.released fun k hk => ?_
    split
    · nofun
    · exact hk

theorem closePass_dark (h : s.Dark) : (closePass s).Dark := by
  unfold closePass
  split
  · exact h
  next p _ =>
    dsimp only
    rw [completePass_frame]
    have hposted : ∀ c : Receipts, (post (.passEnd p.job p.number (p.outcome.getD .failed) p.reason)
        { stopRounds (scanEnd s) with receipts := c }).Dark :=
      fun c => h.congr rfl rfl rfl rfl h.released
    generalize hu : (if p.detached then _ else _ : State) = u
    have hended : u.Dark := by
      rw [← hu]
      split
      · exact hposted _
      · exact passEndQueue_dark _ _ (hposted _)
    exact hended.congr rfl rfl rfl rfl hended.released

theorem terminate_dark (o : PassOutcome) (r : Option Reason) (signal : Bool) (h : s.Dark) :
    (terminate o r signal s).Dark := by
  have hdecided : (decidePass o r s).Dark := h.congr rfl rfl rfl rfl h.released
  unfold terminate
  split
  · exact hdecided.congr rfl rfl rfl rfl hdecided.released
  · exact closePass_dark hdecided

theorem failPass_dark (r : Reason) (h : s.Dark) : (failPass r s).Dark := by
  have hsecond : (secondFault r s).Dark := h.congr rfl rfl rfl rfl h.released
  unfold failPass
  split
  · exact h
  · split
    · exact h
    · exact terminate_dark _ _ _ h
    · exact terminate_dark _ _ _ h
    · split
      · exact terminate_dark _ _ _ h
      · exact hsecond
    · exact hsecond

/-! ### The lamp fault and the pass -/

/-- The state in which the lamp fault reaches the pass: its report posted, the lamp in FAULT (R46). -/
def State.lampFaulted (s : State) : State :=
  { s with link := s.link.posted [.lampFault], drive := { s.drive with lamp := .fault, warmTimer := none } }

theorem lampCurrentFault_lit (h : s.drive.lamp = .warming ∨ s.drive.lamp = .ready) (hr : s.cal.run = none)
    (hi : s.settings.idle ≠ 0) (hj : s.releasedJob = none) :
    lampCurrentFault s = failPass .lamp s.lampFaulted := by
  have hlit : s.drive.lamp.lit = true := by
    obtain h | h := h <;> simp [h, LampState.lit]
  have hfaulted : post .lampFault (s.onDrive fun d => { d with lamp := .fault, warmTimer := none }) =
      s.lampFaulted := post_eq _ _
  have hdark : s.lampFaulted.Dark := ⟨rfl, rfl, hi, hr, hj⟩
  rw [lampCurrentFault, if_pos hlit, hfaulted, abortRun_none (failPass_dark _ hdark).run]

/-- Settles O50: the stage of the pass decides between its close, the kill signal and the secondary reason. -/
theorem failureTaken : Obligations.FailureTaken := by
  intro s p hon hs hp hrun hlamp hidle
  have hexec : exec .lampCurrentFault s = .next (finish (failPass .lamp s.lampFaulted)) := by
    rw [← lampCurrentFault_lit hlamp hrun hidle hs.1]
    exact exec_finish rfl hon
  have hdark : (failPass .lamp s.lampFaulted).Dark :=
    failPass_dark _ ⟨rfl, rfl, hidle, hrun, hs.1⟩
  have hfinish := finish_unreleased hdark.released
  have hp' : s.lampFaulted.sender.pass = some p := hp
  refine ⟨_, hexec, ?_, ?_, fun hstage hh => ?closed, fun hmid hbreak => ?signalled, fun hlate => ?second⟩
  · rw [hfinish]
    exact hdark.lamp
  · rw [hfinish]
    exact hdark.warmTimer
  case closed =>
    rw [failPass_closes hp' (by exact hstage)]
    obtain ⟨hnow, hlink, hcloses⟩ := finish_closed (s := s.lampFaulted.failed p .lamp)
      (p := p.decided .failed (some .lamp)) rfl rfl hh hs.1
    refine ⟨hnow, hcloses, hlink.trans (congrArg Link.pumped ?_)⟩
    exact posted_append s.link [.lampFault] (p.endReports .failed (some .lamp))
  case signalled =>
    rw [failPass_signals hp' (by exact hmid) hbreak, finish_resting (by exact hs)]
    exact ⟨rfl, rfl, rfl, rfl, p.decided .failed (some .lamp), rfl, rfl, rfl, rfl, rfl, rfl, rfl⟩
  case second =>
    rw [failPass_second (r := .lamp) hp' (by exact hlate) nofun, finish_resting (by exact hs)]
    have hsecond : some (p.secondary.getD .lamp) = if p.secondary = none then some .lamp else p.secondary := by
      cases p.secondary <;> rfl
    rw [hsecond]
    exact ⟨rfl, rfl⟩

end Sys2Proof.Machine
end

section
/-! PROOFS. The Sender's signals and deadlines, and the close at the end of the kill signal (R112, R128, R131, R143,
R146). -/

namespace Sys2Proof.Machine

variable {s t : State} {p : Pass} {o : PassOutcome} {r : Reason} {m : Moment}

/-! ### The ends of the signals -/

theorem callupSignalEnd_eq (hc : s.sender.circ = .callup) (hm : s.sender.signalEnds = some m)
    (hp : s.sender.pass = some p) :
    callupSignalEnd s =
      { s with
        now := max s.now m
        sender := ⟨.callup, some { p with callDone := true }, .steady p.copy.white, none⟩ } := by
  simp only [callupSignalEnd, hc, hm, hp, advanceTo, State.onSender]

theorem endSignalEnd_eq (hc : s.sender.circ = .ending) (hm : s.sender.signalEnds = some m)
    (hp : s.sender.pass = some p) :
    endSignalEnd s =
      { s with
        now := max s.now m
        sender := ⟨.gathering, some { p with gatherCount := 0 }, .silent, none⟩ } := by
  simp only [endSignalEnd, hc, hm, hp, advanceTo, setCirc, State.onSender, State.onPass, Option.map_some]

theorem killSignalEnd_eq (hc : s.sender.circ = .killing) (hm : s.sender.signalEnds = some m) :
    killSignalEnd s = closePass { s with now := max s.now m } := by
  simp only [killSignalEnd, hc, hm, advanceTo]

theorem holdDeadline_eq (hp : s.sender.pass = some p) (hh : p.holdReason = true) (hm : p.holdDeadline = some m) :
    holdDeadline s = failPass .holdTimeout { s with now := max s.now m } := by
  simp only [holdDeadline, hp, hh, hm, advanceTo]

theorem breakDeadline_eq (hp : s.sender.pass = some p) (hb : p.breakReason = true) (hm : p.breakDeadline = some m) :
    breakDeadline s = failPass .breakTimeout { s with now := max s.now m } := by
  simp only [breakDeadline, hp, hb, hm, advanceTo]

/-- A break timeout closes the pass at every stage before the kill signal. -/
theorem failPass_breakTimeout (hp : s.sender.pass = some p) (hb : p.breakReason = true)
    (h : s.unsent p ∨ s.midPicture p ∨ s.sentInFull p) :
    failPass .breakTimeout s = closePass (s.failed p .breakTimeout) := by
  obtain h | h | h := h
  · exact failPass_closes hp (.inl h)
  · exact failPass_closes hp (.inr ⟨h, hb⟩)
  · exact failPass_breakTimeout_sent hp h

/-- Settles O48: each signal's end by its circuit state, each deadline through the failure it raises. -/
theorem signalsAndDeadlinesEnd : Obligations.SignalsAndDeadlinesEnd := by
  refine ⟨fun s m p hon hm hp => ⟨fun hc => ?callup, fun hc => ?ending⟩,
    fun s m p hon hs hp => ⟨fun hmid hh hm hb => ?hold, fun hstage hb hm hholds => ?broken⟩⟩
  case callup => exact (live_on _ hon).trans (congrArg _ (callupSignalEnd_eq hc hm hp))
  case ending => exact (live_on _ hon).trans (congrArg _ (endSignalEnd_eq hc hm hp))
  case hold =>
    refine (exec_finish (f := holdDeadline) rfl hon).trans (congrArg _ ?_)
    rw [holdDeadline_eq hp hh hm, failPass_signals (by exact hp) (by exact hmid) hb, finish_resting (by exact hs)]
    rfl
  case broken =>
    refine ⟨_, exec_finish (f := breakDeadline) rfl hon, ?_⟩
    rw [breakDeadline_eq hp hb hm, failPass_breakTimeout (by exact hp) hb (by exact hstage)]
    obtain ⟨hnow, hlink, hcloses⟩ := finish_closed
      (s := ({ s with now := max s.now m } : State).failed p .breakTimeout)
      (p := p.decided .failed (some .breakTimeout)) rfl rfl hholds hs.1
    exact ⟨hnow, hlink, hcloses⟩

/-! ### The close at the end of the kill signal -/

theorem Scan.over_ended {c : Scan} {x : ScanPass} (hx : c.pass = some x) (he : x.ended = true) : c.over = c := by
  simp only [Scan.over, hx, he, if_true]

theorem passCounts_some {x : ScanPass} (hx : s.scan.pass = some x) :
    passCounts p s = ⟨p.sent, p.fills, x.heldRefs, x.spoiledLines, x.drift⟩ := by
  simp only [passCounts, hx]

/-- Settles O49: the close of the pass by its outcome, with the printer out of paper. -/
theorem passClosed : Obligations.PassClosed := by
  intro s m p o x hon hr hprinter hc hm hp ho hd hx he hq hcal hidle hj hactive now brk settled drive t slips
  let u : State := { s with now := max s.now m }
  have hexec : exec .killSignalEnd s = .next (finish (closePass u)) := by
    rw [← killSignalEnd_eq hc hm]
    exact exec_finish rfl hon
  have ho' : p.outcome.getD .failed = o := by rw [ho]; rfl
  have hover : u.scan.over = s.scan := Scan.over_ended hx he
  have hbreak : u.breakPresent = brk := State.breakPresent_eq u
  have hreceipts : u.receiptsEnded p o =
      { s.receipts with
        slips := slips
        log := s.receipts.log.map fun r => if r.job = p.job then { r with passes := r.passes.map settled } else r } := by
    unfold State.receiptsEnded
    rw [passClose_stopped, passCounts_some (s := u) hx]
    rfl
  obtain ⟨j, hfound⟩ := Option.isSome_iff_exists.mp hj
  refine ⟨fun hn => ?finished, fun hk hload => ?killed⟩
  case finished =>
    rw [hexec, closePass_finished (s := u) hp ho' hd hq hcal hidle hn hj, State.passClosed, hover, hbreak, hreceipts,
      finish_resting ?resting]
    case resting =>
      refine ⟨releasedJob_map (s := s) rfl hr fun k hk => ?_, fun hready => ?_⟩
      · split
        · nofun
        · exact hk
      · rw [hprinter] at hready
        cases hready
    rfl
  case killed =>
    have hclosed : recordsClosed p.job (u.receiptsEnded p o).log =
        s.receipts.log.map fun r =>
          if r.job = p.job then { r with passes := r.passes.map settled, isOpen := false } else r := by
      refine (recordsClosed_settled _ _ _).trans ?_
      rw [passClose_stopped, passCounts_some (s := u) hx]
      rfl
    have ha : j.state = .active := hactive j (List.mem_of_find?_eq_some hfound) (by simpa using List.find?_some hfound)
    rw [hexec, closePass_killed (s := u) hp ho' hd hq hcal hidle hk hfound ha hload, State.passClosed, hover, hbreak,
      hclosed, hreceipts, finish_resting ?resting]
    case resting =>
      refine ⟨releasedJob_filter (s := s) _ rfl fun k hk hs => absurd hs (not_released_of_none hr k hk), fun hready => ?_⟩
      rw [hprinter] at hready
      cases hready
    rfl

end Sys2Proof.Machine
end

section
/-! PROOFS. The break detector, and a break declared during a pass (R104 to R107, R134, R136, R143, R146). -/

namespace Sys2Proof.Machine

variable {s t : State} {p : Pass} {m : Moment}

/-! ### The two tones (R104) -/

theorem toneOn_clear (h : s.circuit.detector = .clear) :
    toneOn s =
      { s with circuit := { s.circuit with detector := .arming, armingTimer := some (s.now + 300) } } := by
  simp only [toneOn, State.onCircuit, h, Config.armingTime]

theorem toneOn_ending (h : s.circuit.detector = .ending) :
    toneOn s = { s with circuit := { s.circuit with detector := .present, endingTimer := none } } := by
  simp only [toneOn, State.onCircuit, h]

theorem toneOn_sounding (h : s.circuit.detector = .arming ∨ s.circuit.detector = .present) : toneOn s = s := by
  obtain h | h := h <;> simp only [toneOn, State.onCircuit, h]

theorem toneOff_arming (h : s.circuit.detector = .arming) :
    toneOff s = { s with circuit := { s.circuit with detector := .clear, armingTimer := none } } := by
  simp only [toneOff, State.onCircuit, h]

theorem toneOff_present (h : s.circuit.detector = .present) :
    toneOff s =
      { s with circuit := { s.circuit with detector := .ending, endingTimer := some (s.now + 2000) } } := by
  simp only [toneOff, State.onCircuit, h, Config.endingTime]

theorem toneOff_silent (h : s.circuit.detector = .clear ∨ s.circuit.detector = .ending) : toneOff s = s := by
  obtain h | h := h <;> simp only [toneOff, State.onCircuit, h]

/-! ### The two timers (R104, R105) -/

/-- The state in which a break-on reaches the Sender: break present, the slot in progress marked, `*BREAK ON`
posted (R105, R106). -/
def State.breakDeclared (s : State) (m : Moment) : State :=
  { s with
    now := max s.now m
    link := s.link.posted [.breakOn]
    circuit :=
      { s.circuit with
        detector := .present
        armingTimer := none
        rounds := s.circuit.rounds.map fun r => { r with breakSeen := true } } }

/-- The state in which a break-off reaches the Sender (R105). -/
def State.breakOver (s : State) (m : Moment) : State :=
  { s with
    now := max s.now m
    link := s.link.posted [.breakOff]
    circuit := { s.circuit with detector := .clear, endingTimer := none } }

theorem armingExpiry_eq (hd : s.circuit.detector = .arming) (hm : s.circuit.armingTimer = some m) :
    armingExpiry s = senderBreakOn (s.breakDeclared m) := by
  simp only [armingExpiry, hd, hm, post_eq]
  rfl

theorem endingExpiry_eq (hd : s.circuit.detector = .ending) (hm : s.circuit.endingTimer = some m) :
    endingExpiry s = senderBreakOff (s.breakOver m) := by
  simp only [endingExpiry, hd, hm, post_eq]
  rfl

/-! ### A break at the Sender (R105, R107, R134, R146) -/

theorem senderBreakOn_free (hp : s.sender.pass = none) :
    senderBreakOn s =
      { s with sender := if s.sender.circ = .free then ⟨.broken, none, .silent, none⟩ else s.sender } := by
  have hstep : senderBreakOn s = if s.sender.circ = .free then setCirc .broken .silent s else s := by
    simp only [senderBreakOn, hp]
  rw [hstep]
  split
  · simp only [setCirc, State.onSender, hp]
  · rfl

theorem senderBreakOff_free (hp : s.sender.pass = none) :
    senderBreakOff s =
      { s with sender := if s.sender.circ = .broken then ⟨.free, none, .silent, none⟩ else s.sender } := by
  have hstep : senderBreakOff s = if s.sender.circ = .broken then setCirc .free .silent s else s := by
    simp only [senderBreakOff, hp]
  rw [hstep]
  split
  · simp only [setCirc, State.onSender, hp]
  · rfl

theorem senderBreakOn_killing (hp : s.sender.pass = some p) (hc : s.sender.circ = .killing) :
    senderBreakOn s = closePass s := by
  simp only [senderBreakOn, hp, if_pos hc]

/-- The pass with BREAK in its set and its deadline running (R134, R143). -/
def Pass.broken (p : Pass) (deadline : Moment) : Pass :=
  { p with breakReason := true, breakDeadline := some deadline }

/-- The state with BREAK in the set of its pass. -/
def State.broken (s : State) (p : Pass) : State :=
  { s with sender := { s.sender with pass := some (p.broken (s.now + 60000 * s.settings.breakMax)) } }

theorem senderBreakOn_pass (hp : s.sender.pass = some p) (hc : s.sender.circ ≠ .killing) :
    senderBreakOn s = reasonEntered (s.broken p) := by
  have hstep : senderBreakOn s = addBreak s := by simp only [senderBreakOn, hp, if_neg hc]
  rw [hstep, addBreak, onPass_eq hp]
  rfl

theorem reasonEntered_unsent (hp : s.sender.pass = some p) (hc : s.sender.circ = .callup ∨ s.sender.circ = .answer) :
    reasonEntered s = takePause .callup s := by
  obtain hc | hc := hc <;> simp only [reasonEntered, hp, hc]

theorem reasonEntered_sent {pt : ResumePoint} (hp : s.sender.pass = some p)
    (hc : (s.sender.circ = .ending ∧ pt = .ending) ∨ (s.sender.circ = .gathering ∧ pt = .gathering)) :
    reasonEntered s = takePause pt s := by
  obtain ⟨hc, rfl⟩ | ⟨hc, rfl⟩ := hc <;> simp only [reasonEntered, hp, hc]

/-! ### The step at which a break is declared -/

section Declared

variable (hon : s.powered = true) (hs : s.resting) (hd : s.circuit.detector = .arming)
  (hm : s.circuit.armingTimer = some m)

include hon hd hm in
theorem exec_armingExpiry :
    exec .armingTimerExpiry s = .next (finish (senderBreakOn (s.breakDeclared m))) := by
  rw [← armingExpiry_eq hd hm]
  exact exec_finish rfl hon

include hon hs hd hm in
/-- A break declared during a pass that neither ends nor changes queue or printer. -/
theorem exec_armingExpiry_pass {rs : List Report} {x : Sender} (hp : s.sender.pass = some p)
    (hc : s.sender.circ ≠ .killing)
    (ht : reasonEntered ((s.breakDeclared m).broken p) =
      { s.breakDeclared m with link := (s.breakDeclared m).link.posted rs, sender := x }) :
    exec .armingTimerExpiry s =
      .next
        { s.breakDeclared m with link := (s.link.posted (.breakOn :: rs)).pumped, sender := x } := by
  rw [exec_armingExpiry hon hd hm, senderBreakOn_pass (by exact hp) (by exact hc), ht, finish_resting (by exact hs)]
  refine congrArg (fun l => Host.Outcome.next ({ s.breakDeclared m with link := l, sender := x } : State)) ?_
  exact congrArg Link.pumped (posted_append s.link [.breakOn] rs)

end Declared

theorem pauseTone_broken (h : p.breakReason = true) : pauseTone p = .silent := if_pos h

/-- Settles O47: the detector alone, and a break declared during a pass by the circuit state. -/
theorem breakDetected : Obligations.BreakDetected := by
  refine ⟨fun s hon => ⟨?toneOn, ?toneOff, fun m hs hp hd hm => ?arming, fun m hs hp hd hm => ?ending⟩,
    fun s m p hon hs hp hd hm => ⟨fun hc => ?pending, fun hc hline hpend => ?untaken, fun hc => ?unsent,
      fun pt hc => ?sent, fun hc => ?paused, fun o hc ho hh => ?killing⟩⟩
  case toneOn =>
    refine (live_on _ hon).trans (congrArg _ ?_)
    cases hd : s.circuit.detector with
    | clear => exact toneOn_clear hd
    | arming => exact toneOn_sounding (.inl hd)
    | present => exact toneOn_sounding (.inr hd)
    | ending => exact toneOn_ending hd
  case toneOff =>
    refine (live_on _ hon).trans (congrArg _ ?_)
    cases hd : s.circuit.detector with
    | clear => exact toneOff_silent (.inl hd)
    | arming => exact toneOff_arming hd
    | present => exact toneOff_present hd
    | ending => exact toneOff_silent (.inr hd)
  case arming =>
    rw [exec_armingExpiry hon hd hm, senderBreakOn_free (by exact hp), finish_resting (by exact hs)]
    rfl
  case ending =>
    have hexec : exec .endingTimerExpiry s = .next (finish (endingExpiry s)) := exec_finish rfl hon
    rw [hexec, endingExpiry_eq hd hm, senderBreakOff_free (by exact hp), finish_resting (by exact hs)]
    rfl
  case pending =>
    refine exec_armingExpiry_pass (rs := []) hon hs hd hm hp ?_ ?_
    · obtain hc | ⟨hc, -⟩ := hc <;> simp [hc]
    · rw [posted_nil]
      exact reasonEntered_pending (p := p.broken _) rfl (hc.imp id fun h => ⟨h.1, h.2.symm⟩)
  case untaken =>
    refine exec_armingExpiry_pass hon hs hd hm hp (by simp [hc]) ?_
    refine (reasonEntered_picture (p := p.broken _) rfl (by exact hc) hpend hline).trans ?_
    refine (takePause_eq (pt := .rephase) (p := p.broken _) rfl nofun).trans ?_
    rw [pauseTone_broken (by rfl)]
    simp only [Pass.broken, hpend, hline]
    rfl
  case unsent =>
    refine exec_armingExpiry_pass hon hs hd hm hp (by obtain hc | hc := hc <;> simp [hc]) ?_
    refine (reasonEntered_unsent (p := p.broken _) rfl (by exact hc)).trans ?_
    refine (takePause_callup (p := p.broken _) rfl).trans ?_
    rw [pauseTone_broken (by rfl)]
    rfl
  case sent =>
    refine exec_armingExpiry_pass hon hs hd hm hp (by obtain ⟨hc, -⟩ | ⟨hc, -⟩ := hc <;> simp [hc]) ?_
    refine (reasonEntered_sent (p := p.broken _) rfl (by exact hc)).trans ?_
    have hpt : pt ≠ .callup := by
      obtain ⟨-, rfl⟩ | ⟨-, rfl⟩ := hc
      · exact nofun
      · exact nofun
    rw [takePause_eq (p := p.broken (max s.now m + 60000 * s.settings.breakMax)) (by rfl) hpt,
      pauseTone_broken (by rfl)]
    rfl
  case paused =>
    refine exec_armingExpiry_pass hon hs hd hm hp (by simp [hc]) ?_
    refine (reasonEntered_paused (p := p.broken _) rfl (by exact hc)).trans ?_
    refine (pauseChanged_eq (p := p.broken _) rfl).trans ?_
    rw [pauseTone_broken (by rfl)]
    rfl
  case killing =>
    refine ⟨_, exec_armingExpiry hon hd hm, ?_⟩
    rw [senderBreakOn_killing (by exact hp) (by exact hc)]
    obtain ⟨hnow, hlink, hcloses⟩ := finish_closed (s := s.breakDeclared m) (o := o) hp (by rw [ho]; rfl) hh hs.1
    refine ⟨hnow, hlink.trans (congrArg Link.pumped ?_), hcloses⟩
    exact posted_append s.link [.breakOn] (p.endReports o p.reason)

end Sys2Proof.Machine
end

section
/-! PROOFS. How a pass goes on: the end of a break, the resumption of a pause, and the index mark in a pause and in
ANSWER (R120, R134, R138, R139, R141, R142). -/

namespace Sys2Proof.Machine

variable {s t : State} {p : Pass} {m : Moment} {v : Speed} {period : Nat} {pt : ResumePoint}

/-! ### A resumption at its point (R141, R142) -/

/-- The state in which a resumption takes effect: `*RESUME` posted, the resume point cleared. -/
def State.resumed (s : State) (p : Pass) (pt : ResumePoint) : State :=
  { s with
    link := s.link.posted [.resume p.job pt]
    sender := { s.sender with pass := some { p with resume := none } } }

theorem post_resume (hp : s.sender.pass = some p) (pt : ResumePoint) :
    post (.resume p.job pt) (s.onPass fun p => { p with resume := none }) = s.resumed p pt := by
  rw [post_eq, onPass_eq hp]
  rfl

theorem resumeAt_phasing (hp : s.sender.pass = some p) (hpt : pt = .rephase ∨ pt = .phasing) :
    resumeAt pt s =
      { s with
        link := s.link.posted [.resume p.job pt]
        sender :=
          { circ := .phasing
            pass :=
              some
                { p with resume := none, rephase := decide (pt = .rephase), phaseCount := 0, lastPhasing := false }
            tone := s.sender.tone
            signalEnds := none } } := by
  obtain rfl | rfl := hpt
  · simp only [resumeAt, hp, post_resume hp]
    exact onPass_eq (p := { p with resume := none }) (by rfl) _
  · simp only [resumeAt, hp, post_resume hp]
    exact onPass_eq (p := { p with resume := none }) (by rfl) _

theorem resumeAt_callup (hp : s.sender.pass = some p) :
    resumeAt .callup s = enterCallup (s.resumed p .callup) := by
  simp only [resumeAt, hp, post_resume hp]

theorem enterEnding_eq (hp : s.sender.pass = some p) :
    enterEnding s =
      { s with
        scan := s.scan.over
        sender := ⟨.ending, some p, .steady p.copy.black, some (s.now + 3000)⟩ } := by
  simp only [enterEnding, hp, scanEnd_eq, State.onSender]
  rfl

theorem resumeAt_ending (hp : s.sender.pass = some p) :
    resumeAt .ending s =
      { s.resumed p .ending with
        scan := s.scan.over
        sender := ⟨.ending, some { p with resume := none }, .steady p.copy.black, some (s.now + 3000)⟩ } := by
  simp only [resumeAt, hp, post_resume hp]
  exact enterEnding_eq (p := { p with resume := none }) rfl

theorem Scan.over_idle {c : Scan} (h : ∀ x, c.pass = some x → x.ended = true) : c.over = c := by
  cases hx : c.pass with
  | none => simp only [Scan.over, hx]
  | some x => exact Scan.over_ended hx (h x hx)

/-! ### A call-up that invites no station (R113) -/

/-- The state in which a call-up with no station to call fails with NO_ANSWER. -/
def State.uncalled (s : State) (p : Pass) : State :=
  { s with
    drive := s.drive.passBegun s.now
    circuit := (startRounds p.copy.slots s).circuit
    sender := ⟨.callup, some ((p.called s).decided .failed (some .noAnswer)), .silent, none⟩ }

theorem enterCallup_nobody (hp : s.sender.pass = some p)
    (hnone : invitedOf (p.stations.map (callStarted s)) = []) : enterCallup s = closePass (s.uncalled p) := by
  have hparty : p.stations.map (callEntry (startRounds p.copy.slots s)) = p.stations.map (callStarted s) :=
    List.map_congr_left fun n _ => callEntry_started _ n s
  simp only [enterCallup, hp, hparty, hnone, List.isEmpty_nil, if_true]
  simp only [passToDrive_eq, startRounds_eq, State.onPass, setCirc, State.onSender, hp, Option.map_some]
  refine (failPass_closes (p := p.called s) rfl (.inl (.inl rfl))).trans ?_
  simp only [State.uncalled, State.failed, startRounds_eq]

theorem Drive.passBegun_wants (d : Drive) (now : Moment) :
    (d.passBegun now).queueWant = d.queueWant ∧ (d.passBegun now).calWant = d.calWant := by
  unfold Drive.passBegun
  split
  · exact ⟨rfl, rfl⟩
  · exact ⟨rfl, rfl⟩

theorem Drive.passBegun_carriage (d : Drive) (now : Moment) :
    (d.passBegun now).stepFaults = 0 ∧ (d.carriage = .home → (d.passBegun now).carriage = .home) ∧
      (d.carriage = .unhomed ∨ d.carriage = .stepping →
        (d.passBegun now).carriage = .returning ∧ (d.passBegun now).returnTimer = some (now + 3000)) := by
  unfold Drive.passBegun
  split
  next h => exact ⟨rfl, id, fun hc => by obtain h | h := h <;> obtain hc | hc := hc <;> simp [h] at hc⟩
  next h => exact ⟨rfl, fun hc => absurd (.inl hc) h, fun _ => ⟨rfl, rfl⟩⟩

/-- The step at whose end a pass with no station to call is closed. -/
theorem finish_uncalled (hh : s.holdsJob p) (hr : s.releasedJob = none) :
    (finish (closePass (s.uncalled p))).now = s.now ∧
      (finish (closePass (s.uncalled p))).link = (s.link.posted (p.endReports .failed (some .noAnswer))).pumped ∧
      s.closes (finish (closePass (s.uncalled p))) p .failed := by
  obtain ⟨hqueue, hcal⟩ := s.drive.passBegun_wants s.now
  have hholds : (s.uncalled p).holdsJob ((p.called s).decided .failed (some .noAnswer)) := fun hd => by
    obtain ⟨hl, hj, hq, hc, hi⟩ := hh hd
    exact ⟨hl, hj, by rw [show (s.uncalled p).drive.queueWant = _ from hqueue]; exact hq, hcal.trans hc, hi⟩
  obtain ⟨hnow, hlink, hdet, hsender, hrounds, hmask, hscan, hstore, hq, hdetached, hfree⟩ :=
    finish_closed (s := s.uncalled p) rfl rfl hholds hr
  refine ⟨hnow, hlink, hdet, hsender, hrounds, hmask.trans ?_, hscan, hstore, hq,
    fun hd => (hdetached hd).trans hqueue, hfree⟩
  rw [State.uncalled, startRounds_eq]
  simp only [List.map_map]
  rfl

/-! ### The end of a break (R134, R138) -/

/-- The pass with BREAK gone from its set and its deadline dropped (R134). -/
def Pass.cleared (p : Pass) : Pass := { p with breakReason := false, breakDeadline := none }

/-- The state in which BREAK has left the set of the pass. -/
def State.breakLeft (s : State) (p : Pass) : State :=
  { s with sender := { s.sender with pass := some p.cleared } }

theorem senderBreakOff_pass (hp : s.sender.pass = some p) (hb : p.breakReason = true) :
    senderBreakOff s = reasonLeft (s.breakLeft p) := by
  have hstep : senderBreakOff s = removeBreak s := by simp only [senderBreakOff, hp, hb, if_true]
  rw [hstep, removeBreak, onPass_eq hp]
  rfl

theorem pauseTone_unbroken (h : p.breakReason = false) : pauseTone p = .steady p.copy.white :=
  if_neg (ne_true_of_eq_false h)

section BreakOver

variable (hon : s.powered = true) (hs : s.resting) (hp : s.sender.pass = some p) (hb : p.breakReason = true)
  (hd : s.circuit.detector = .ending) (hm : s.circuit.endingTimer = some m)

include hon hp hb hd hm in
theorem exec_endingExpiry :
    exec .endingTimerExpiry s = .next (finish (reasonLeft ((s.breakOver m).breakLeft p))) := by
  rw [← senderBreakOff_pass (by exact hp) hb, ← endingExpiry_eq hd hm]
  exact exec_finish rfl hon

include hon hs hp hb hd hm in
/-- The end of a break after which the Sender alone goes on. -/
theorem exec_endingExpiry_sender {rs : List Report} {x : Sender}
    (ht : reasonLeft ((s.breakOver m).breakLeft p) =
      { s.breakOver m with link := (s.breakOver m).link.posted rs, sender := x }) :
    exec .endingTimerExpiry s =
      .next { s.breakOver m with link := (s.link.posted (.breakOff :: rs)).pumped, sender := x } := by
  rw [exec_endingExpiry hon hp hb hd hm, ht, finish_resting (by exact hs)]
  refine congrArg (fun l => Host.Outcome.next ({ s.breakOver m with link := l, sender := x } : State)) ?_
  exact congrArg Link.pumped (posted_append s.link [.breakOff] rs)

end BreakOver

/-! ### An index mark while a pass is in progress -/

/-- The line in progress is closed at an index mark. -/
theorem closeLine_closed (good : Bool) (c : Scan) : ∀ x, (closeLine good c).pass = some x → x.line = none := by
  unfold closeLine
  intro x hx
  split at hx
  next h => rw [h] at hx; cases hx
  next y h =>
    split at hx
    next hline => rw [h] at hx; cases hx; exact hline
    next l hline =>
      split at hx
      · cases hx; rfl
      · cases hx; rfl

theorem closeLine_none (good : Bool) {c : Scan} (h : ∀ x, c.pass = some x → x.line = none) : closeLine good c = c := by
  unfold closeLine
  split
  · rfl
  next x hx => rw [h x hx]

theorem beginLine_withheld (locked : Bool) (s : State) : beginLine .withheld locked s = s := by
  unfold beginLine
  split
  · rfl
  · exact if_neg (by simp [mayBeginLine])

/-- The state that the Sender's decision finds at an index mark in LOCKED (R30, R68). -/
def State.judged (s : State) (v : Speed) (period : Nat) : State :=
  { s with
    drive := s.drive.judged v period
    scan := closeLine (withinPermille 3 v period) s.scan }

/-- An index mark in LOCKED, with no calibration run or request, at which no line begins. -/
theorem exec_senderMark (hon : s.powered = true) (hd : s.drive.drum = .locked) (hv : s.drive.lockedAt = some v)
    (hl : withinError 10 v period ∨ s.drive.lossCount = 0)
    (ht : senderIndex (withinPermille 3 v period) (s.judged v period) = (t, .withheld)) (hr : t.cal.run = none)
    (hq : t.cal.request = false) : exec (.indexMark period) s = .next (finish t) := by
  have hhand : handIndex true (withinPermille 3 v period) { s with drive := s.drive.judged v period } = t := by
    have hclosed : ({ s with drive := s.drive.judged v period } : State).onScan
        (closeLine (withinPermille 3 v period)) = s.judged v period := rfl
    simp only [handIndex, hclosed, ht, beginLine_withheld, calIndex_idle _ _ hr hq]
  rw [exec_lockedMark hon hd hv hl, hhand]

theorem senderIndex_held (good : Bool) (hp : s.sender.pass = some p) (hc : s.sender.circ = .paused)
    (hset : p.holdReason = true ∨ p.breakReason = true) : senderIndex good s = (s, .withheld) := by
  simp only [senderIndex, hp, hc, hset, if_true]

theorem senderIndex_resumes (good : Bool) (hp : s.sender.pass = some p) (hc : s.sender.circ = .paused)
    (hh : p.holdReason = false) (hb : p.breakReason = false) (hr : p.resume = some pt)
    (hpt : pt = .rephase ∨ pt = .phasing) : senderIndex good s = (resumeAt pt s, .withheld) := by
  obtain rfl | rfl := hpt
  · simp [senderIndex, hp, hc, hh, hb, hr]
  · simp [senderIndex, hp, hc, hh, hb, hr]

theorem senderIndex_waits (good : Bool) (hp : s.sender.pass = some p) (hc : s.sender.circ = .paused)
    (h1 : p.resume ≠ some .rephase) (h2 : p.resume ≠ some .phasing) : senderIndex good s = (s, .withheld) := by
  simp only [senderIndex, hp, hc, ite_self]

theorem Pass.anyJoined_iff (p : Pass) : p.anyJoined = true ↔ ∃ e ∈ p.party, e.state = .joined := by
  simp [Pass.anyJoined]

theorem senderIndex_answer (good : Bool) (hp : s.sender.pass = some p) (hc : s.sender.circ = .answer) :
    senderIndex good s =
      (if p.windowOpen = false ∧ ∃ e ∈ p.party, e.state = .joined then
        { s with
          sender :=
            { circ := .phasing
              pass := some { p with rephase := false, phaseCount := 0, lastPhasing := false }
              tone := s.sender.tone
              signalEnds := none } }
      else s, .withheld) := by
  have hopens : (!p.windowOpen && p.anyJoined) = true ↔ p.windowOpen = false ∧ ∃ e ∈ p.party, e.state = .joined := by
    rw [Bool.and_eq_true, p.anyJoined_iff, Bool.not_eq_true']
  have hphasing : (setCirc .phasing s.sender.tone s).onPass
      (fun p => { p with rephase := false, phaseCount := 0, lastPhasing := false }) =
      { s with
        sender :=
          { circ := .phasing
            pass := some { p with rephase := false, phaseCount := 0, lastPhasing := false }
            tone := s.sender.tone
            signalEnds := none } } := onPass_eq (s := setCirc .phasing s.sender.tone s) hp _
  simp only [senderIndex, hp, hc, hopens, hphasing]
  split <;> rfl

/-- An index mark at which the Sender alone moves, beside the drive's verdict and the line it closes. -/
theorem exec_senderMark_resting {l : Link} {x : Sender} (hon : s.powered = true) (hs : s.resting)
    (hd : s.drive.drum = .locked) (hv : s.drive.lockedAt = some v)
    (hl : withinError 10 v period ∨ s.drive.lossCount = 0) (hr : s.cal.run = none) (hq : s.cal.request = false)
    (ht : senderIndex (withinPermille 3 v period) (s.judged v period) =
      ({ s.judged v period with link := l, sender := x }, .withheld)) :
    exec (.indexMark period) s = .next { s.judged v period with link := l.pumped, sender := x } := by
  rw [exec_senderMark hon hd hv hl ht (by exact hr) (by exact hq), finish_resting (by exact hs)]

end Sys2Proof.Machine
end

section
/-! PROOFS. How a pass goes on at the end of a break and at an index mark. -/

namespace Sys2Proof.Machine

variable {s : State} {p : Pass} {v : Speed} {period : Nat}

/-- What an index mark leaves where the Sender alone moved, whatever link and Sender it leaves. -/
theorem judged_frame (s : State) (v : Speed) (period : Nat) (l : Link) (x : Sender) (t : State)
    (ht : t = { s.judged v period with link := l, sender := x }) :
    t.settings = s.settings ∧ t.queue = s.queue ∧ t.circuit = s.circuit ∧ t.receipts = s.receipts ∧
      t.cal = s.cal ∧ t.drive.position = s.drive.position ∧
      (∀ x, s.scan.pass = some x → x.line = none → t.scan = s.scan) ∧
      ∀ y, t.scan.pass = some y → y.line = none := by
  subst ht
  refine ⟨rfl, rfl, rfl, rfl, rfl, rfl, fun x hx hline => closeLine_none _ fun y hy => ?_, closeLine_closed _ _⟩
  rw [hx] at hy
  cases hy
  exact hline

/-- What the Sender makes of an index mark in a pause or in ANSWER: the link and the Sender after it. -/
def Sender.marked (x : Sender) (p : Pass) (l : Link) : Link × Sender :=
  if x.circ = .answer then
    (l,
      if p.windowOpen = false ∧ ∃ e ∈ p.party, e.state = .joined then
        ⟨.phasing, some { p with rephase := false, phaseCount := 0, lastPhasing := false }, x.tone, none⟩
      else x)
  else if p.holdReason = false ∧ p.breakReason = false ∧ (p.resume = some .rephase ∨ p.resume = some .phasing) then
    (l.posted (p.resume.toList.map (.resume p.job)),
      ⟨.phasing,
        some
          { p with
            resume := none, rephase := decide (p.resume = some .rephase), phaseCount := 0, lastPhasing := false },
        x.tone, none⟩)
  else (l, x)

theorem senderIndex_marked (good : Bool) (hp : s.sender.pass = some p)
    (hc : s.sender.circ = .paused ∨ s.sender.circ = .answer) :
    senderIndex good s =
      ({ s with link := (s.sender.marked p s.link).1, sender := (s.sender.marked p s.link).2 }, .withheld) := by
  obtain hc | hc := hc
  · have hans : s.sender.circ ≠ .answer := by rw [hc]; decide
    unfold Sender.marked
    rw [if_neg hans]
    by_cases hgo : p.holdReason = false ∧ p.breakReason = false ∧ (p.resume = some .rephase ∨ p.resume = some .phasing)
    · rw [if_pos hgo]
      obtain ⟨hh, hb, hr | hr⟩ := hgo
      · rw [senderIndex_resumes good hp hc hh hb hr (.inl rfl), resumeAt_phasing hp (.inl rfl), hr]
        rfl
      · rw [senderIndex_resumes good hp hc hh hb hr (.inr rfl), resumeAt_phasing hp (.inr rfl), hr]
        rfl
    · rw [if_neg hgo]
      by_cases hset : p.holdReason = true ∨ p.breakReason = true
      · exact senderIndex_held good hp hc hset
      · obtain ⟨hh, hb⟩ := not_or.mp hset
        have hr : ¬ (p.resume = some .rephase ∨ p.resume = some .phasing) :=
          fun h => hgo ⟨by simpa using hh, by simpa using hb, h⟩
        obtain ⟨h1, h2⟩ := not_or.mp hr
        exact senderIndex_waits good hp hc h1 h2
  · rw [senderIndex_answer good hp hc, Sender.marked, if_pos hc]
    split <;> rfl

/-- The end of a break in a pause that restarts the call-up. -/
theorem reasonLeft_recalls (hh : p.holdReason = false) (hc : s.sender.circ = .paused)
    (hr : p.resume = some .callup) :
    reasonLeft (s.breakLeft p) = enterCallup ((s.breakLeft p).resumed p.cleared .callup) :=
  (reasonLeft_resumes (s := s.breakLeft p) (p := p.cleared) rfl hh rfl hc hr (.inl rfl)).trans
    (resumeAt_callup (s := s.breakLeft p) (p := p.cleared) rfl)

/-- Settles O60: the end of a break by the state of the pass, and the index mark in a pause and in ANSWER. -/
theorem passGoesOn : Obligations.PassGoesOn := by
  refine ⟨fun s m p hon hs hp hb hd hm => ⟨fun hc => ?pending, fun hc hh => ?still, fun hc hh =>
    ⟨fun hr => ?waits, fun hr => ?gathering, fun hr hx => ?ending, fun hr => ⟨fun hcalled => ?callup,
      fun hcalled hholds => ?nobody⟩⟩⟩, fun s period v p hon hs hd hv hl hr hq hp hc => ?mark⟩
  case pending =>
    have hunpaused : s.sender.circ ≠ .paused := by obtain hc | hc := hc <;> rw [hc] <;> decide
    refine exec_endingExpiry_sender (rs := []) hon hs hp hb hd hm ?_
    rw [posted_nil]
    obtain hh | hh := Bool.eq_false_or_eq_true p.holdReason
    · rw [if_pos hh]
      exact reasonLeft_stays (s := (s.breakOver m).breakLeft p) (p := p.cleared) rfl (.inl hh) hunpaused
    · rw [if_neg (ne_true_of_eq_false hh)]
      exact reasonLeft_cancelled (s := (s.breakOver m).breakLeft p) (p := p.cleared) rfl hh rfl hunpaused
  case still =>
    refine exec_endingExpiry_sender hon hs hp hb hd hm ?_
    refine (reasonLeft_still (s := (s.breakOver m).breakLeft p) (p := p.cleared) rfl (.inl hh) hc).trans ?_
    rw [pauseChanged_eq (p := p.cleared) rfl, pauseTone_unbroken rfl, show p.cleared.holdReason = true from hh]
    rfl
  case waits =>
    refine exec_endingExpiry_sender (rs := []) hon hs hp hb hd hm ?_
    rw [posted_nil]
    refine (reasonLeft_waits (s := (s.breakOver m).breakLeft p) (p := p.cleared) rfl hh rfl hc hr).trans ?_
    rw [pauseTone_unbroken rfl]
    rfl
  case gathering =>
    refine exec_endingExpiry_sender hon hs hp hb hd hm ?_
    refine (reasonLeft_resumes (s := (s.breakOver m).breakLeft p) (p := p.cleared) rfl hh rfl hc hr (.inr (.inr rfl))).trans ?_
    exact resumeAt_gathering (p := p.cleared) rfl
  case ending =>
    refine exec_endingExpiry_sender hon hs hp hb hd hm ?_
    refine (reasonLeft_resumes (s := (s.breakOver m).breakLeft p) (p := p.cleared) rfl hh rfl hc hr (.inr (.inl rfl))).trans ?_
    rw [resumeAt_ending (p := p.cleared) rfl, Scan.over_idle (by exact hx)]
    rfl
  case callup =>
    let u : State := ((s.breakOver m).breakLeft p).resumed p.cleared .callup
    have hcallup : reasonLeft ((s.breakOver m).breakLeft p) = enterCallup u := reasonLeft_recalls hh hc hr
    have hlink : u.link = s.link.posted [.breakOff, .resume p.job .callup] := posted_append ..
    obtain ⟨hfaults, hhome, haway⟩ := s.drive.passBegun_carriage (max s.now m)
    rw [exec_endingExpiry hon hp hb hd hm, hcallup, enterCallup_eq (s := u) (p := { p.cleared with resume := none }) rfl
      (by exact hcalled), finish_resting (by exact hs)]
    refine ⟨_, rfl, rfl, congrArg Link.pumped hlink, rfl, ?_, hfaults, hhome, haway, rfl, rfl, rfl, rfl⟩
    rw [startRounds_eq]
    rfl
  case nobody =>
    let u : State := ((s.breakOver m).breakLeft p).resumed p.cleared .callup
    have hcallup : reasonLeft ((s.breakOver m).breakLeft p) = enterCallup u := reasonLeft_recalls hh hc hr
    have hlink : u.link = s.link.posted [.breakOff, .resume p.job .callup] := posted_append ..
    rw [exec_endingExpiry hon hp hb hd hm, hcallup, enterCallup_nobody (s := u) (p := { p.cleared with resume := none })
      rfl (by exact hcalled)]
    obtain ⟨hnow, hend, hcloses⟩ := finish_uncalled (s := u) (p := { p.cleared with resume := none }) hholds hs.1
    refine ⟨_, rfl, hnow, hend.trans (congrArg Link.pumped ?_), hcloses⟩
    rw [hlink, posted_append]
    rfl
  case mark =>
    let l := s.sender.marked p s.link
    have hexec : exec (.indexMark period) s =
        .next { s.judged v period with link := l.1.pumped, sender := l.2 } :=
      exec_senderMark_resting hon hs hd hv hl hr hq (senderIndex_marked (s := s.judged v period) _ hp hc)
    obtain ⟨h1, h2, h3, h4, h5, h6, h7, h8⟩ := judged_frame s v period l.1.pumped l.2 _ rfl
    refine ⟨_, hexec, h1, h2, h3, h4, h5, h6, h7, h8, fun hc hset => ?held, fun pt hc hh hb hr hpt => ?resumes,
      fun hc => ?answer⟩
    case held =>
      have hl : l = (s.link, s.sender) := by
        have hans : s.sender.circ ≠ .answer := by rw [hc]; decide
        have hgo : ¬ (p.holdReason = false ∧ p.breakReason = false ∧
            (p.resume = some .rephase ∨ p.resume = some .phasing)) := by
          rintro ⟨hh, hb, -⟩
          simp [hh, hb] at hset
        exact (if_neg hans).trans (if_neg hgo)
      rw [hl]
      exact ⟨rfl, rfl⟩
    case resumes =>
      have hans : s.sender.circ ≠ .answer := by rw [hc]; decide
      have hl : l = (s.link.posted (p.resume.toList.map (.resume p.job)), _) :=
        (if_neg hans).trans (if_pos ⟨hh, hb, hpt.imp (fun h => hr.trans (congrArg some h)) (fun h => hr.trans (congrArg some h))⟩)
      rw [hl, hr]
      refine ⟨rfl, ?_⟩
      simp
    case answer =>
      have hl : l = (s.link, _) := if_pos hc
      rw [hl]
      exact ⟨rfl, rfl⟩

end Sys2Proof.Machine
end

section
/-! PROOFS. An index mark while a pass is in progress: the Sender's decision in PHASING (R120, R121, R136, R142). -/

namespace Sys2Proof.Machine

variable {s t : State} {p : Pass} {v : Speed} {period : Nat} {good : Bool} {perm : Permission}

/-! ### The mark handed on to the Scan Unit and the Sender -/

/-- A line begun at an index mark depends on the Scan Unit and the drive alone. -/
theorem beginLine_of (perm : Permission) (locked : Bool) (l : Link) (x : Sender) (s : State) :
    beginLine perm locked { s with link := l, sender := x } =
      { s with
        link := l
        sender := x
        scan := (beginLine perm locked s).scan
        drive := (beginLine perm locked s).drive } := by
  unfold beginLine
  dsimp only
  split
  · rfl
  · split
    · split <;> rfl
    · rfl

/-- An index mark in LOCKED, with no calibration run or request. -/
theorem exec_passMark (hon : s.powered = true) (hd : s.drive.drum = .locked) (hv : s.drive.lockedAt = some v)
    (hl : withinError 10 v period ∨ s.drive.lossCount = 0)
    (ht : senderIndex (withinPermille 3 v period) (s.judged v period) = (t, perm)) (hr : t.cal.run = none)
    (hq : t.cal.request = false) : exec (.indexMark period) s = .next (finish (beginLine perm true t)) := by
  have hhand : handIndex true (withinPermille 3 v period) { s with drive := s.drive.judged v period } =
      beginLine perm true t := by
    have hclosed : ({ s with drive := s.drive.judged v period } : State).onScan
        (closeLine (withinPermille 3 v period)) = s.judged v period := rfl
    simp only [handIndex, hclosed, ht]
    rw [beginLine_frame]
    exact calIndex_idle _ _ hr hq
  rw [exec_lockedMark hon hd hv hl, hhand]

section Mark

variable (hon : s.powered = true) (hs : s.resting) (hd : s.drive.drum = .locked) (hv : s.drive.lockedAt = some v)
  (hl : withinError 10 v period ∨ s.drive.lossCount = 0) (hr : s.cal.run = none) (hq : s.cal.request = false)

include hon hs hd hv hl hr hq

/-- An index mark at which the Sender moves itself and posts reports: the Scan Unit and the carriage follow its
permission. -/
theorem exec_passMark_resting {l : Link} {x : Sender}
    (ht : senderIndex (withinPermille 3 v period) (s.judged v period) =
      ({ s.judged v period with link := l, sender := x }, perm)) :
    exec (.indexMark period) s =
      .next
        { s with
          link := l.pumped
          sender := x
          scan := (beginLine perm true (s.judged v period)).scan
          drive := (beginLine perm true (s.judged v period)).drive } := by
  rw [exec_passMark hon hd hv hl ht (by exact hr) (by exact hq), beginLine_of, finish_resting (by exact hs)]
  rfl

end Mark

/-! ### PHASING (R120, R121, R136, R142) -/

/-- The revolutions counted after an index mark in PHASING (R120). -/
def Pass.counted (p : Pass) (good : Bool) : Nat := if good then p.phaseCount + 1 else p.phaseCount

/-- The mark at which PHASING is left for PICTURE (R121). -/
def Pass.enters (p : Pass) (good : Bool) : Prop :=
  p.lastPhasing = true ∧ good = true ∧ p.phaseTarget ≤ p.counted good

/-- The revolution that opens is the last of its phasing (R121, R142). -/
def Pass.opensLast (p : Pass) (good : Bool) (car : CarriageState) : Prop :=
  p.phaseTarget ≤ p.counted good + 1 ∧ (p.rephase = true ∨ car = .home)

theorem senderIndex_phasing (good : Bool) (hp : s.sender.pass = some p) (hc : s.sender.circ = .phasing) :
    senderIndex good s = phasingMark good p s := by
  simp only [senderIndex, hp, hc]

theorem phasingMark_pauses (hp : s.sender.pass = some p) (hpend : p.pausePending = true) :
    phasingMark good p s =
      ({ s with
          link := s.link.posted [.pause p.job p.holdReason p.breakReason]
          sender :=
            ⟨.paused,
              some
                { p with
                  phaseCount := p.counted good
                  pausePending := false
                  resume := some (if p.rephase then .rephase else .phasing)
                  line := none },
              pauseTone p, none⟩ }, .withheld) := by
  have hpt : (if p.rephase then ResumePoint.rephase else .phasing) ≠ .callup := by
    split <;> nofun
  unfold phasingMark
  dsimp only
  rw [onPass_eq hp, if_pos hpend, takePause_eq (p := { p with phaseCount := p.counted good }) rfl hpt]
  rfl

theorem phasingMark_enters (hp : s.sender.pass = some p) (hpend : p.pausePending = false) (h : p.enters good) :
    phasingMark good p s =
      ({ s with
          sender :=
            { s.sender with
              circ := .picture
              pass :=
                some { p with phaseCount := p.counted good, rephase := false, lastPhasing := false, line := none } } },
        .given) := by
  unfold phasingMark
  dsimp only
  rw [onPass_eq hp, if_neg (ne_true_of_eq_false hpend)]
  exact if_pos h

theorem phasingMark_last (hp : s.sender.pass = some p) (hpend : p.pausePending = false) (h : ¬ p.enters good)
    (hlast : p.opensLast good s.drive.carriage) :
    phasingMark good p s =
      ({ s with
          sender :=
            { s.sender with pass := some { p with phaseCount := p.counted good, lastPhasing := true } } },
        if p.rephase then .given else .lastPhasing) := by
  unfold phasingMark
  dsimp only
  rw [onPass_eq hp, if_neg (ne_true_of_eq_false hpend)]
  exact (if_neg h).trans (if_pos hlast)

theorem phasingMark_counts (hp : s.sender.pass = some p) (hpend : p.pausePending = false) (h : ¬ p.enters good)
    (hlast : ¬ p.opensLast good s.drive.carriage) :
    phasingMark good p s =
      ({ s with
          sender :=
            { s.sender with pass := some { p with phaseCount := p.counted good, lastPhasing := false } } },
        .withheld) := by
  unfold phasingMark
  dsimp only
  rw [onPass_eq hp, if_neg (ne_true_of_eq_false hpend)]
  exact (if_neg h).trans (if_neg hlast)

theorem Pass.counted_eq (p : Pass) (v : Speed) (period : Nat) :
    p.counted (withinPermille 3 v period) = if withinError 3 v period then p.phaseCount + 1 else p.phaseCount :=
  if_congr (withinPermille_iff ..) rfl rfl

theorem Pass.enters_iff (p : Pass) (v : Speed) (period : Nat) :
    p.enters (withinPermille 3 v period) ↔
      p.lastPhasing = true ∧ withinError 3 v period ∧
        (if p.rephase then p.copy.rephase else p.copy.phase) ≤
          if withinError 3 v period then p.phaseCount + 1 else p.phaseCount := by
  rw [Pass.enters, p.counted_eq, withinPermille_iff]
  rfl

/-- Settles O38: the pause, the entry to PICTURE, and the count with the last revolution designated or not. -/
theorem phasingRevolutionEnds : Obligations.PhasingRevolutionEnds := by
  intro s period v p hon hs hd hv hl hr hq hp hc count needed
  have hindex := senderIndex_phasing (s := s.judged v period) (withinPermille 3 v period) hp hc
  have hcount : p.counted (withinPermille 3 v period) = count := p.counted_eq v period
  have henters : p.enters (withinPermille 3 v period) ↔
      p.lastPhasing = true ∧ withinError 3 v period ∧ needed ≤ count := p.enters_iff v period
  by_cases hpend : p.pausePending = true
  · rw [phasingMark_pauses (by exact hp) hpend, hcount] at hindex
    exact ⟨_, exec_passMark_resting hon hs hd hv hl hr hq hindex, rfl, rfl, rfl, rfl, rfl, fun _ => ⟨rfl, rfl⟩,
      fun h => absurd hpend (ne_true_of_eq_false h), fun h => absurd hpend (ne_true_of_eq_false h),
      fun h => absurd hpend (ne_true_of_eq_false h)⟩
  · have hpend' : p.pausePending = false := by simpa using hpend
    by_cases hgo : p.enters (withinPermille 3 v period)
    · rw [phasingMark_enters (by exact hp) hpend' hgo, hcount] at hindex
      exact ⟨_, exec_passMark_resting hon hs hd hv hl hr hq hindex, rfl, rfl, rfl, rfl, rfl, fun h => absurd h hpend,
        fun _ => rfl, fun _ _ _ _ => rfl, fun _ h => absurd (henters.mp hgo) h⟩
    · have hnot : ¬ (p.lastPhasing = true ∧ withinError 3 v period ∧ needed ≤ count) := fun h => hgo (henters.mpr h)
      have hlast : p.opensLast (withinPermille 3 v period) s.drive.carriage ↔
          needed - 1 ≤ count ∧ (p.rephase = true ∨ s.drive.carriage = .home) := by
        rw [Pass.opensLast, hcount, ← Nat.sub_le_iff_le_add]
        rfl
      by_cases h : p.opensLast (withinPermille 3 v period) s.drive.carriage
      · rw [phasingMark_last (by exact hp) hpend' hgo (by exact h), hcount] at hindex
        refine ⟨_, exec_passMark_resting hon hs hd hv hl hr hq hindex, rfl, rfl, rfl, rfl, rfl, fun h => absurd h hpend,
          fun _ => rfl, fun _ h1 h2 h3 => absurd ⟨h1, h2, h3⟩ hnot, fun _ _ => ?_⟩
        rw [decide_eq_true (hlast.mp h)]
        rfl
      · rw [phasingMark_counts (by exact hp) hpend' hgo (by exact h), hcount] at hindex
        refine ⟨_, exec_passMark_resting hon hs hd hv hl hr hq hindex, rfl, rfl, rfl, rfl, rfl, fun h => absurd h hpend,
          fun _ => rfl, fun _ h1 h2 h3 => absurd ⟨h1, h2, h3⟩ hnot, fun _ _ => ?_⟩
        rw [decide_eq_false fun h' => h (hlast.mpr h')]
        rfl

end Sys2Proof.Machine
end

section
/-! PROOFS. The index mark that ends a picture revolution (R124, R128, R136, R144), and the lines of the Scan Unit at
an index mark (R67 to R70). -/

namespace Sys2Proof.Machine

variable {s t : State} {p : Pass} {v : Speed} {period : Nat} {good : Bool} {perm : Permission} {l : SentLine}

/-! ### The line counted (R124) -/

theorem countLine_eq (l : SentLine) (p : Pass) :
    countLine l p =
      { p with
        sent := p.sent + 1
        fills := p.fills + (if l.fill then 1 else 0)
        heldSent := p.heldSent + (if l.heldRef then 1 else 0)
        lastCodes := some l.codes
        line := none } := by
  unfold countLine
  cases l.fill <;> cases l.heldRef <;> rfl

/-- The `*LINE` report of a completed line, at each multiple of PROGRESS (R124). -/
def State.progress (s : State) (l : SentLine) (q : Pass) : List Report :=
  if s.settings.progress ≠ 0 ∧ s.settings.progress ∣ q.sent then [.line q.job q.sent q.heldSent l.drift] else []

theorem postProgress_eq (l : SentLine) (q : Pass) (s : State) :
    postProgress l q s = { s with link := s.link.posted (s.progress l q) } := by
  have hmultiple : (s.settings.progress ≠ 0 ∧ q.sent % s.settings.progress = 0) ↔
      s.settings.progress ≠ 0 ∧ s.settings.progress ∣ q.sent := by
    rw [Nat.dvd_iff_mod_eq_zero]
  unfold postProgress State.progress
  by_cases h : s.settings.progress ≠ 0 ∧ q.sent % s.settings.progress = 0
  · rw [if_pos h, if_pos (hmultiple.mp h), post_eq]
  · rw [if_neg h, if_neg fun h' => h (hmultiple.mpr h'), posted_nil]

theorem senderIndex_picture (good : Bool) (hp : s.sender.pass = some p) (hc : s.sender.circ = .picture)
    (hl : p.line = some l) : senderIndex good s = completeLine l p s := by
  simp only [senderIndex, hp, hc, hl]

/-- The state in which the Sender decides after a counted line: the line counted, `*LINE` posted. -/
def State.lineCounted (s : State) (l : SentLine) (p : Pass) : State :=
  { s with
    link := s.link.posted (s.progress l (countLine l p))
    sender := { s.sender with pass := some (countLine l p) } }

theorem onPass_counted (hp : s.sender.pass = some p) :
    postProgress l (countLine l p) (s.onPass fun _ => countLine l p) = s.lineCounted l p := by
  rw [onPass_eq hp, postProgress_eq]
  rfl

theorem completeLine_sends (hp : s.sender.pass = some p) (hf : p.consecFills < 4) (hn : p.sent + 1 < p.lines)
    (hpend : p.pausePending = false) : completeLine l p s = (s.lineCounted l p, .given) := by
  have hlast : ¬ (countLine l p).lines ≤ (countLine l p).sent := Nat.not_le.mpr hn
  simp only [completeLine, decide_eq_false (Nat.not_le.mpr hf), Bool.false_eq_true, if_false, onPass_counted hp,
    if_neg hlast, hpend]

theorem completeLine_pauses (hp : s.sender.pass = some p) (hf : p.consecFills < 4) (hn : p.sent + 1 < p.lines)
    (hpend : p.pausePending = true) :
    completeLine l p s = (takePause .rephase (s.lineCounted l p), .withheld) := by
  have hlast : ¬ (countLine l p).lines ≤ (countLine l p).sent := Nat.not_le.mpr hn
  simp only [completeLine, decide_eq_false (Nat.not_le.mpr hf), Bool.false_eq_true, if_false, onPass_counted hp,
    if_neg hlast, hpend, if_true]

theorem completeLine_ends (hp : s.sender.pass = some p) (hf : p.consecFills < 4) (hn : p.sent + 1 = p.lines) :
    completeLine l p s =
      (if p.pausePending then takePause .ending (enterEnding (s.lineCounted l p)) else enterEnding (s.lineCounted l p),
        .withheld) := by
  have hlast : (countLine l p).lines ≤ (countLine l p).sent := Nat.le_of_eq hn.symm
  simp only [completeLine, decide_eq_false (Nat.not_le.mpr hf), Bool.false_eq_true, if_false, onPass_counted hp,
    if_pos hlast]

/-- The state with another record of its pass. -/
def State.withPass (s : State) (q : Pass) : State := { s with sender := { s.sender with pass := some q } }

theorem completeLine_fails (hp : s.sender.pass = some p) (hf : p.consecFills = 4) :
    completeLine l p s =
      (postProgress l (countLine l p) (failPass .fills (s.withPass (countLine l p))), .withheld) := by
  simp only [completeLine, decide_eq_true (Nat.le_of_eq hf.symm), if_true, onPass_eq hp]
  rfl

/-! ### The scan context at an index mark -/

theorem closeLine_ended (good : Bool) (c : Scan) :
    ((closeLine good c).pass.any fun x => !x.ended) = c.pass.any fun x => !x.ended := by
  cases hc : c.pass with
  | none => simp only [closeLine, hc]
  | some x =>
    cases hx : x.line with
    | none => simp only [closeLine, hc, hx]
    | some k =>
      simp only [closeLine, hc, hx]
      split <;> rfl

/-- The end of scanning empties the store (R72). -/
theorem Scan.over_store {c : Scan} (h : (c.pass.any fun x => !x.ended) = true) : c.over.store = [] := by
  cases hc : c.pass with
  | none => rw [hc] at h; cases h
  | some x =>
    have hx : x.ended = false := by rw [hc] at h; simpa using h
    simp only [Scan.over, hc, hx, Bool.false_eq_true, if_false]

/-! ### A line that ends the pass -/

theorem closePass_settings (hp : s.sender.pass = some p) (hh : s.holdsJob p) :
    (closePass s).settings = s.settings := by
  cases hd : p.detached with
  | true => rw [closePass_detached hp hd]
  | false =>
    obtain ⟨hl, hj, hq, hc, hi⟩ := hh hd
    obtain ⟨j, hf, ha⟩ := Option.map_eq_some_iff.mp hj
    by_cases hk : p.outcome.getD .failed = .killed
    · rw [closePass_killed hp rfl hd hq hc hi hk hf ha hl]
      rfl
    · rw [closePass_finished hp rfl hd hq hc hi hk (by rw [show s.findJob p.job = some j from hf]; rfl)]
      rfl

/-- A mark at which the pass is closed under a break, `*LINE` following its reports. -/
theorem finish_fillsClosed (hp : s.sender.pass = some p) (hc : s.sender.circ = .picture) (hb : p.breakReason = true)
    (hh : s.holdsJob p) (hr : s.releasedJob = none) :
    ∃ u, postProgress l p (failPass .fills s) = u ∧ u.cal = s.cal ∧ (finish u).now = s.now ∧
      s.closes (finish u) p .failed ∧
      (finish u).link = (s.link.posted (p.endReports .failed (some .fills) ++ s.progress l p)).pumped := by
  have hfail : failPass .fills s = closePass (s.failed p .fills) := failPass_closes hp (.inr ⟨.inr (.inl hc), hb⟩)
  have hcal : (closePass (s.failed p .fills)).cal = s.cal :=
    closePass_cal (p := p.decided .failed (some .fills)) rfl hh
  have hsettings : (closePass (s.failed p .fills)).settings = s.settings :=
    closePass_settings (p := p.decided .failed (some .fills)) rfl hh
  obtain ⟨hlink, hnow, hcloses⟩ :=
    closePass_closes (s := s.failed p .fills) (p := p.decided .failed (some .fills)) (o := .failed) rfl rfl hh
  have hlink : (closePass (s.failed p .fills)).link = s.link.posted (p.endReports .failed (some .fills)) := hlink
  have hreleased := closes_releasedJob hcloses hr
  have hprogress : (closePass (s.failed p .fills)).progress l p = s.progress l p := by
    unfold State.progress
    rw [hsettings]
  rw [hfail, postProgress_eq, hprogress, hlink, posted_append]
  refine ⟨_, rfl, hcal, ?_⟩
  rw [finish_unreleased (by exact hreleased)]
  exact ⟨hnow, hcloses, rfl⟩

/-- Settles O39: the line counted, then the pass sent on, paused, ended or failed. -/
theorem pictureLineCompleted : Obligations.PictureLineCompleted := by
  intro s period v p l hon hs hd hv hl hr hq hp hc hline q progress
  have hcounted : countLine l p = q := countLine_eq l p
  have hprogress : s.progress l q = progress := rfl
  have hpass' : (s.judged v period).sender.pass = some p := hp
  have hindex := senderIndex_picture (withinPermille 3 v period) hpass' hc hline
  have hlink : ((s.judged v period).lineCounted l p).link = s.link.posted progress := by
    rw [← hprogress, ← hcounted]
    rfl
  have hpass : ((s.judged v period).lineCounted l p).sender.pass = some q := congrArg some hcounted
  have hstore : ∀ x, s.scan.pass = some x → x.ended = false → (s.judged v period).scan.over.store = [] :=
    fun x hx he => Scan.over_store ((closeLine_ended _ _).trans (by simp [hx, he]))
  refine ⟨fun hf hn hpend => ?sends, fun hf hn hpend => ?pauses, fun hf hn hpend => ?ends, fun hf hn hpend => ?endsPaused,
    fun hf hb hh => ?closed, fun hf hb => ?killed⟩
  case sends =>
    rw [completeLine_sends hpass' hf hn hpend] at hindex
    refine ⟨_, exec_passMark_resting hon hs hd hv hl hr hq hindex, ?_, congrArg Link.pumped hlink⟩
    rw [hcounted]
    rfl
  case pauses =>
    rw [completeLine_pauses hpass' hf hn hpend, takePause_eq (pt := .rephase) hpass nofun, hlink, posted_append] at hindex
    exact ⟨_, exec_passMark_resting hon hs hd hv hl hr hq hindex, rfl, rfl⟩
  case ends =>
    rw [completeLine_ends hpass' hf hn, hpend, if_neg nofun, enterEnding_eq hpass, hlink] at hindex
    refine ⟨_, exec_passMark hon hd hv hl hindex hr hq, ?_⟩
    rw [beginLine_withheld, finish_resting (by exact hs)]
    exact ⟨rfl, rfl, hstore⟩
  case endsPaused =>
    rw [completeLine_ends hpass' hf hn, hpend, if_pos rfl, enterEnding_eq hpass, hlink, takePause_eq (pt := .ending) (p := q) (by rfl) nofun,
      posted_append] at hindex
    refine ⟨_, exec_passMark hon hd hv hl hindex hr hq, ?_⟩
    rw [beginLine_withheld, finish_resting (by exact hs)]
    exact ⟨rfl, rfl, hstore⟩
  case closed =>
    rw [completeLine_fails hpass' hf, hcounted] at hindex
    obtain ⟨u, hu, hcal, hnow, hcloses, hend⟩ := finish_fillsClosed (l := l) (p := q)
      (s := (s.judged v period).withPass q) rfl hc hb hh hs.1
    rw [hu] at hindex
    refine ⟨_, exec_passMark hon hd hv hl hindex (by rw [hcal]; exact hr) (by rw [hcal]; exact hq), ?_⟩
    rw [beginLine_withheld]
    obtain ⟨hdet, hsender, hrounds, hmask, hscan, hempty, hrest⟩ := hcloses
    exact ⟨hnow, ⟨hdet, hsender, hrounds, hmask, hscan, fun he => hempty ((closeLine_ended _ _).trans he), hrest⟩, hend⟩
  case killed =>
    have hfail := failPass_signals (r := .fills) (p := q)
      (s := (s.judged v period).withPass q) rfl (.inr (.inl hc)) hb
    rw [completeLine_fails hpass' hf, hcounted, hfail, postProgress_eq] at hindex
    refine ⟨_, q.decided .failed (some .fills), exec_passMark hon hd hv hl hindex hr hq, ?_⟩
    rw [beginLine_withheld, finish_resting (by exact hs)]
    exact ⟨rfl, rfl, rfl, rfl, rfl, rfl, rfl, rfl⟩

end Sys2Proof.Machine
end

section
/-! PROOFS. The Scan Unit at an index mark (R67 to R70). -/

namespace Sys2Proof.Machine

variable {s : State} {p : Pass} {v : Speed} {period : Nat} {good : Bool} {perm : Permission} {c : Scan} {x y : ScanPass}
  {k : ScanLine}

/-! ### The line in progress closed (R68, R70) -/

theorem closeLine_without (good : Bool) (hc : c.pass = some x) (hk : x.line = none) : closeLine good c = c := by
  simp only [closeLine, hc, hk]

theorem padCodes_full {n : Nat} {codes : List Nat} (h : codes.length = n) : padCodes n codes = codes := by
  simp [padCodes, h]

theorem closeLine_with (good : Bool) (hc : c.pass = some x) (hk : x.line = some k) (hcodes : k.codes.length = 1232) :
    closeLine good c =
      if good = false ∨ k.spoiled = true then
        { c with
          pass :=
            some
              { x with
                line := none
                spoiledLines := x.spoiledLines + 1
                nextLine := if k.number = 1 then 1 else k.number + 1 } }
      else
        { c with
          store := c.store ++ [⟨x.job, k.number, k.codes, k.heldRef, x.drift⟩]
          pass := some { x with line := none, nextLine := k.number + 1 } } := by
  have hrecord : lineRecord x k = ⟨x.job, k.number, k.codes, k.heldRef, x.drift⟩ := by
    unfold lineRecord
    rw [padCodes_full (by exact hcodes)]
  have hspoiled : (!good || k.spoiled) = true ↔ good = false ∨ k.spoiled = true := by simp
  simp only [closeLine, hc, hk, hrecord, hspoiled]

theorem closeLine_pass (good : Bool) (hc : c.pass = some x) : ∃ y, (closeLine good c).pass = some y := by
  cases hk : x.line with
  | none => exact ⟨x, by rw [closeLine_without good hc hk]; exact hc⟩
  | some k =>
    simp only [closeLine, hc, hk]
    split
    · exact ⟨_, rfl⟩
    · exact ⟨_, rfl⟩

/-! ### The next line begun (R69) -/

theorem mayBeginLine_iff (perm : Permission) (car : CarriageState) (c : Scan) (y : ScanPass) :
    mayBeginLine perm true car c y = true ↔
      perm ≠ .withheld ∧ (perm = .lastPhasing → y.nextLine = 1) ∧ y.nextLine ≤ y.lines ∧ c.store.length ≤ 1 ∧
        y.ended = false ∧ y.failed = false ∧ (y.nextLine = 1 → car = .home) := by
  have himp : ∀ a b : Prop, (¬ a ∨ b) ↔ (a → b) := fun a b => imp_iff_not_or.symm
  simp only [mayBeginLine, Bool.and_eq_true, Bool.or_eq_true, bne_iff_ne, beq_iff_eq, decide_eq_true_eq,
    Bool.not_eq_true', ne_eq, and_true, himp]
  constructor
  · rintro ⟨⟨⟨⟨⟨⟨h1, h2⟩, h3⟩, h4⟩, h5⟩, h6⟩, h7⟩
    exact ⟨h1, h7, h2, h3, h4, h5, h6⟩
  · rintro ⟨h1, h7, h2, h3, h4, h5, h6⟩
    exact ⟨⟨⟨⟨⟨⟨h1, h2⟩, h3⟩, h4⟩, h5⟩, h6⟩, h7⟩

theorem beginLine_not (hc : s.scan.pass = some y) (h : ¬ mayBeginLine perm true s.drive.carriage s.scan y = true) :
    beginLine perm true s = s := by
  simp only [beginLine, hc, if_neg h]

/-- The scan context with the next line in progress. -/
def Scan.lineBegun (c : Scan) (y : ScanPass) : Scan :=
  { c with pass := some { y with line := some ⟨y.nextLine, [], false, false, 0, 0⟩ } }

theorem beginLine_first (hc : s.scan.pass = some y) (h : mayBeginLine perm true s.drive.carriage s.scan y = true)
    (hn : y.nextLine = 1) : beginLine perm true s = { s with scan := s.scan.lineBegun y } := by
  simp only [beginLine, hc, if_pos h, if_pos hn, State.onScanPass, State.onScan, Option.map_some]
  rfl

theorem beginLine_later (hc : s.scan.pass = some y) (h : mayBeginLine perm true s.drive.carriage s.scan y = true)
    (hn : y.nextLine ≠ 1) :
    beginLine perm true s =
      { s with
        scan := s.scan.lineBegun y
        drive :=
          { s.drive with
            carriage := if s.drive.carriage = .home then .stepping else s.drive.carriage
            position := s.drive.position.map (· + 1)
            stepPitch := some y.pitch
            stepWaiting := true } } := by
  simp only [beginLine, hc, if_pos h, if_neg hn, State.onScanPass, State.onScan, Option.map_some]
  rfl

theorem Drive.judged_eq {d : Drive} (hl : withinError 10 v period ∨ d.lossCount = 0) :
    d.judged v period =
      { d with lossCount := if withinError 10 v period then 0 else d.lossCount + 1, nextPos := some 0 } := by
  unfold Drive.judged
  by_cases h : withinError 10 v period
  · rw [if_pos h, if_pos h]
  · rw [if_neg h, if_neg h, hl.resolve_left h]

/-! ### The scan permission (R67) -/

/-- What the Sender's decision in PHASING, or in a picture that goes on, permits the Scan Unit. -/
theorem senderIndex_permits (good : Bool) (hp : s.sender.pass = some p)
    (hc : s.sender.circ = .phasing ∨
      (s.sender.circ = .picture ∧ p.line.isSome ∧ p.pausePending = false ∧ p.consecFills < 4 ∧
        p.sent + 1 < p.lines)) :
    ∃ l x perm, senderIndex good s = ({ s with link := l, sender := x }, perm) ∧
      (perm ≠ .withheld ↔ s.sender.circ = .picture ∨
        (p.pausePending = false ∧ (p.enters good ∨ (¬ p.enters good ∧ p.opensLast good s.drive.carriage)))) ∧
      (perm ≠ .withheld → (perm = .lastPhasing ↔ s.sender.circ = .phasing ∧
        (¬ p.enters good ∧ p.opensLast good s.drive.carriage) ∧ p.rephase = false)) := by
  obtain hc | ⟨hc, hline, hpend, hf, hn⟩ := hc
  · rw [senderIndex_phasing good hp hc]
    by_cases hpend : p.pausePending = true
    · rw [phasingMark_pauses hp hpend]
      exact ⟨_, _, _, rfl, by simp [hc, hpend], by simp⟩
    · have hpend' : p.pausePending = false := by simpa using hpend
      by_cases hgo : p.enters good
      · rw [phasingMark_enters hp hpend' hgo]
        exact ⟨_, _, _, rfl, by simp [hpend', hgo], by simp [hgo]⟩
      · by_cases hlast : p.opensLast good s.drive.carriage
        · rw [phasingMark_last hp hpend' hgo hlast]
          cases hr : p.rephase with
          | true => exact ⟨_, _, _, rfl, by simp [hpend', hgo, hlast], by simp⟩
          | false => exact ⟨_, _, _, rfl, by simp [hpend', hgo, hlast], by simp [hc, hgo, hlast]⟩
        · rw [phasingMark_counts hp hpend' hgo hlast]
          exact ⟨_, _, _, rfl, by simp [hc, hgo, hlast], by simp⟩
  · obtain ⟨l, hl⟩ := Option.isSome_iff_exists.mp hline
    rw [senderIndex_picture good hp hc hl, completeLine_sends hp hf hn hpend]
    exact ⟨_, _, _, rfl, by simp [hc], by simp [hc]⟩

/-- Settles O40: the line closed, the Sender's permission, and the next line begun by the conditions of R69. -/
theorem linesScannedAtIndexMark : Obligations.LinesScannedAtIndexMark := by
  intro s period v p x hon hs hd hv hl hr hq hp hc hx hcodes count needed enters isLast permitted onlyFirst closed
  have hgood : withinPermille 3 v period = false ↔ ¬ withinError 3 v period := withinPermille_false ..
  have hclosed : closeLine (withinPermille 3 v period) s.scan = closed := by
    simp only [closed]
    cases hk : x.line with
    | none => exact closeLine_without _ hx hk
    | some k =>
      rw [closeLine_with _ hx hk (hcodes k hk)]
      exact if_congr (or_congr hgood Iff.rfl) rfl rfl
  obtain ⟨y, hy⟩ := closeLine_pass (withinPermille 3 v period) hx
  obtain ⟨l, u, perm, hindex, hpermits, hfirst⟩ :=
    senderIndex_permits (s := s.judged v period) (withinPermille 3 v period) hp hc
  have hcount : p.counted (withinPermille 3 v period) = count := p.counted_eq v period
  have henters : p.enters (withinPermille 3 v period) ↔ enters := p.enters_iff v period
  have hlast : (¬ p.enters (withinPermille 3 v period) ∧ p.opensLast (withinPermille 3 v period) s.drive.carriage) ↔
      isLast := by
    rw [henters, Pass.opensLast, hcount]
    rfl
  have hpermits : perm ≠ .withheld ↔ permitted :=
    hpermits.trans (or_congr Iff.rfl (and_congr Iff.rfl (or_congr henters hlast)))
  have hfirst : perm ≠ .withheld → (perm = .lastPhasing ↔ onlyFirst) :=
    fun hperm => (hfirst hperm).trans (and_congr Iff.rfl (and_congr hlast Iff.rfl))
  refine ⟨y, _, by rw [← hclosed]; exact hy, exec_passMark_resting hon hs hd hv hl hr hq hindex, ?_⟩
  intro begins drive
  have hdrive : (s.judged v period).drive = drive := Drive.judged_eq hl
  have hscan : (s.judged v period).scan = closed := hclosed
  have hmay : mayBeginLine perm true (s.judged v period).drive.carriage (s.judged v period).scan y = true ↔ begins := by
    rw [mayBeginLine_iff, hscan]
    exact ⟨fun ⟨h1, h2, hrest⟩ => ⟨hpermits.mp h1, fun ho => h2 ((hfirst h1).mpr ho), hrest⟩,
      fun ⟨h1, h2, hrest⟩ => ⟨hpermits.mpr h1, fun hp => h2 ((hfirst (hpermits.mpr h1)).mp hp), hrest⟩⟩
  refine ⟨fun hb => ⟨?_, fun hn => ?_, fun hn => ?_⟩, fun hb => ?_⟩
  · by_cases hn : y.nextLine = 1
    · rw [beginLine_first hy (hmay.mpr hb) hn, ← hscan]
      rfl
    · rw [beginLine_later hy (hmay.mpr hb) hn, ← hscan]
      rfl
  · rw [beginLine_later hy (hmay.mpr hb) hn, ← hdrive]
    rfl
  · rw [beginLine_first hy (hmay.mpr hb) hn, ← hdrive]
  · rw [beginLine_not hy fun h => hb (hmay.mp h)]
    exact ⟨hscan, hdrive⟩

end Sys2Proof.Machine
end

section
/-! PROOFS. What a sample position does at the drive, the Scan Unit and the Sender (R42, R53 to R58, R66, R111, R122,
R123). -/

namespace Sys2Proof.Machine

variable {s t : State} {p : Pass} {c : Scan} {x : ScanPass} {l : ScanLine} {pos v q : Nat}

/-! ### The Scan Unit's sample (R53 to R58) -/

theorem referenceValid_iff (wl bl : Nat) : referenceValid wl bl = true ↔ 2000 ≤ wl ∧ bl + 1024 ≤ wl := by
  simp [referenceValid]

theorem scanSample_idle (pos v : Nat) (h : ∀ x, c.pass = some x → x.line = none) : scanSample pos v c = c := by
  unfold scanSample
  split
  · rfl
  next x hx => rw [h x hx]

section Line

variable (hc : c.pass = some x) (hl : x.line = some l)

include hc hl

theorem scanSample_white (h : pos < 16) :
    scanSample pos v c = { c with pass := some { x with line := some { l with whiteSum := l.whiteSum + v } } } := by
  simp only [scanSample, hc, hl, if_pos h]

theorem scanSample_black (h : 16 ≤ pos) (h' : pos < 32) :
    scanSample pos v c = { c with pass := some { x with line := some { l with blackSum := l.blackSum + v } } } := by
  simp only [scanSample, hc, hl, if_neg (Nat.not_lt.mpr h), if_pos h']

theorem scanSample_reference : scanSample 32 v c = lineReference x l c := by
  simp [scanSample, hc, hl]

theorem scanSample_clamp (h : 33 ≤ pos) (h' : pos < 48) : scanSample pos v c = c := by
  simp only [scanSample, hc, hl, if_neg (show ¬ pos < 16 by omega), if_neg (show ¬ pos < 32 by omega),
    if_neg (show ¬ pos = 32 by omega), if_pos (show pos < Config.pictureStart from h')]

theorem scanSample_code (h : 48 ≤ pos) :
    scanSample pos v c =
      { c with
        pass :=
          some
            { x with
              line :=
                some
                  { l with
                    codes := padCodes (pos - 48) l.codes ++
                      [toneCode (c.curvePoints x.curve) (normalise c.wr c.br v)] } } } := by
  simp only [scanSample, hc, hl, if_neg (show ¬ pos < 16 by omega), if_neg (show ¬ pos < 32 by omega),
    if_neg (show ¬ pos = 32 by omega), if_neg (show ¬ pos < Config.pictureStart from Nat.not_lt.mpr h)]
  rfl

end Line

theorem lineReference_valid (x : ScanPass) (l : ScanLine) (c : Scan)
    (h : 2000 ≤ l.whiteSum / 16 ∧ l.blackSum / 16 + 1024 ≤ l.whiteSum / 16) :
    lineReference x l c =
      { c with
        wr := (3 * c.wr + l.whiteSum / 16 + 2) / 4
        br := (3 * c.br + l.blackSum / 16 + 2) / 4
        pass := some { x with invalid := 0 } } :=
  if_pos ((referenceValid_iff ..).mpr h)

theorem lineReference_held (x : ScanPass) (l : ScanLine) (c : Scan)
    (h : ¬ (2000 ≤ l.whiteSum / 16 ∧ l.blackSum / 16 + 1024 ≤ l.whiteSum / 16)) (hi : x.invalid < 11) :
    lineReference x l c =
      { c with
        pass :=
          some
            { x with
              invalid := x.invalid + 1, heldRefs := x.heldRefs + 1, line := some { l with heldRef := true } } } :=
  (if_neg fun hv => h ((referenceValid_iff ..).mp hv)).trans (if_pos (by omega))

theorem lineReference_failed (x : ScanPass) (l : ScanLine) (c : Scan)
    (h : ¬ (2000 ≤ l.whiteSum / 16 ∧ l.blackSum / 16 + 1024 ≤ l.whiteSum / 16)) (hi : 11 ≤ x.invalid) :
    lineReference x l c =
      { c with pass := some { x with invalid := 12, heldRefs := x.heldRefs + 1, line := none, failed := true } } :=
  (if_neg fun hv => h ((referenceValid_iff ..).mp hv)).trans (if_neg (by omega))

/-- A sample leaves the store, and fails the pass only as the twelfth invalid reference in a row (R56). -/
theorem scanSample_unfailed (v : Nat) (h : ∀ x, c.pass = some x → x.failed = false ∧ (pos = 32 → x.invalid < 11)) :
    (scanSample pos v c).store = c.store ∧ (scanSample pos v c).referenceFailed = false := by
  have hunfailed : c.referenceFailed = false := by
    unfold Scan.referenceFailed
    split
    · rfl
    next x hx => exact (h x hx).1
  cases hc : c.pass with
  | none =>
    rw [scanSample_idle pos v fun x hx => by rw [hc] at hx; cases hx]
    exact ⟨rfl, hunfailed⟩
  | some x =>
    obtain ⟨hfailed, hinvalid⟩ := h x hc
    cases hl : x.line with
    | none =>
      rw [scanSample_idle pos v fun y hy => by rw [hc] at hy; cases hy; exact hl]
      exact ⟨rfl, hunfailed⟩
    | some l =>
      obtain h | h | h | h | h : pos < 16 ∨ (16 ≤ pos ∧ pos < 32) ∨ pos = 32 ∨ (33 ≤ pos ∧ pos < 48) ∨ 48 ≤ pos := by
        omega
      · rw [scanSample_white hc hl h]
        exact ⟨rfl, hfailed⟩
      · rw [scanSample_black hc hl h.1 h.2]
        exact ⟨rfl, hfailed⟩
      · subst h
        rw [scanSample_reference hc hl]
        by_cases hv : 2000 ≤ l.whiteSum / 16 ∧ l.blackSum / 16 + 1024 ≤ l.whiteSum / 16
        · rw [lineReference_valid x l c hv]
          exact ⟨rfl, hfailed⟩
        · rw [lineReference_held x l c hv (hinvalid rfl)]
          exact ⟨rfl, hfailed⟩
      · rw [scanSample_clamp hc hl h.1 h.2]
        exact ⟨rfl, hunfailed⟩
      · rw [scanSample_code hc hl h]
        exact ⟨rfl, hfailed⟩

theorem scanPosition_reads (v : Nat) (h : (scanSample pos v s.scan).referenceFailed = false) :
    scanPosition pos v s = { s with scan := scanSample pos v s.scan } := by
  have hfailed : (s.onScan (scanSample pos v)).scan.referenceFailed = false := h
  unfold scanPosition
  dsimp only
  rw [hfailed, Bool.false_and, if_neg nofun]
  rfl

/-! ### The drive's sample (R31, R42) -/

/-- The drive after a sample position that finds no step missing. -/
def State.positionPassed (s : State) (pos : Nat) : State :=
  { s with drive := { s.drive with nextPos := some (pos + 1) } }

theorem driveSample_passes (h : pos = 48 → s.drive.stepWaiting = false) : driveSample pos s = s.positionPassed pos := by
  refine if_neg ?_
  rintro ⟨hpos, hstep⟩
  exact nomatch (h hpos).symm.trans hstep

/-- The state in which a step fault is counted: the line spoiled, the step no longer waited for (R42). -/
def State.stepMissed (s : State) : State :=
  { s with
    drive :=
      { s.drive with nextPos := some 49, stepWaiting := false, stepFaults := min 3 (s.drive.stepFaults + 1) }
    scan :=
      { s.scan with
        pass := s.scan.pass.map fun x => { x with line := x.line.map fun l => { l with spoiled := true } } } }

theorem driveSample_faults (h : s.drive.stepWaiting = true) :
    driveSample 48 s = if s.drive.stepFaults = 2 then carriageFault s.stepMissed else s.stepMissed :=
  if_pos ⟨rfl, h⟩

/-! ### The step of a sample position -/

theorem samplePosition_eq (v : Nat) (hn : s.drive.nextPos = some q) (hq : q ≤ pos) (hpos : pos < 1280) :
    samplePosition pos v s = senderSample pos (calSample pos v (scanPosition pos v (driveSample pos s))) := by
  simp only [samplePosition, hn]
  exact if_pos ⟨hq, hpos⟩

theorem exec_samplePosition (b : BitVec 12) (hon : s.powered = true) (hn : s.drive.nextPos = some q) (hq : q ≤ pos)
    (hpos : pos < 1280) :
    exec (.samplePosition pos b) s =
      .next (finish (senderSample pos (calSample pos b.toNat (scanPosition pos b.toNat (driveSample pos s))))) := by
  rw [← samplePosition_eq b.toNat hn hq hpos]
  exact exec_finish (f := samplePosition pos b.toNat) rfl hon

/-! ### The Sender's sample (R66, R111, R122, R123) -/

theorem senderSample_phasing (pos : Nat) (hp : s.sender.pass = some p) (hc : s.sender.circ = .phasing) :
    senderSample pos s =
      { s with sender := { s.sender with tone := .steady (if pos < 48 then p.copy.black else p.copy.white) } } := by
  have hstep : senderSample pos s =
      s.onSender fun x =>
        { x with tone := .steady (if pos < Config.pictureStart then p.copy.black else p.copy.white) } := by
    simp only [senderSample, hp, hc]
  exact hstep

theorem senderSample_other (pos : Nat)
    (h : s.sender.pass = none ∨ (s.sender.circ ≠ .phasing ∧ s.sender.circ ≠ .picture)) : senderSample pos s = s := by
  unfold senderSample
  split
  · rfl
  next p hp =>
    obtain ⟨h1, h2⟩ := h.resolve_left (by rw [hp]; nofun)
    split
    · exact absurd ‹_› h1
    · exact absurd ‹_› h2
    · rfl

/-- The tone of a position of a picture revolution, with no take made at it (R111). -/
theorem senderSample_picture (hp : s.sender.pass = some p) (hc : s.sender.circ = .picture)
    (h : ¬ (pos = 48 ∧ p.line = none)) :
    senderSample pos s = { s with sender := { s.sender with tone := pictureTone pos p s.sender.tone } } := by
  have htake : ¬ (pos = Config.pictureStart ∧ p.line.isNone = true) := by
    rw [Option.isNone_iff_eq_none]
    exact h
  simp only [senderSample, hp, hc, if_neg htake, State.onSender, Option.map_some, Option.getD_some]

theorem senderSample_takes (hp : s.sender.pass = some p) (hc : s.sender.circ = .picture) (hl : p.line = none) :
    senderSample 48 s =
      (takeLine p s).onSender fun y =>
        { y with tone := (y.pass.map fun p => pictureTone 48 p y.tone).getD y.tone } := by
  have htake : 48 = Config.pictureStart ∧ p.line.isNone = true := ⟨rfl, Option.isNone_iff_eq_none.mpr hl⟩
  simp only [senderSample, hp, hc, if_pos htake]

theorem pictureTone_clamp (h : pos < 48) (p : Pass) (t : Tone) : pictureTone pos p t = .steady p.copy.black :=
  if_pos h

theorem pictureTone_code {k : SentLine} (h : 48 ≤ pos) (hl : p.line = some k) (t : Tone) :
    pictureTone pos p t =
      .steady (toneFrequency p.copy.white p.copy.black (k.codes.getD (pos - 48) 0)) := by
  simp only [pictureTone, if_neg (show ¬ pos < Config.pictureStart from Nat.not_lt.mpr h), hl]
  rfl

/-- The state after the take of a line: the tone of its first code put out (R59, R66). -/
def State.lineTaken (s : State) (p : Pass) (k : SentLine) (fills : Nat) (store : List LineRecord) : State :=
  { s with
    scan := { s.scan with store := store }
    sender :=
      { s.sender with
        tone := .steady (toneFrequency p.copy.white p.copy.black (k.codes.getD 0 0))
        pass := some { p with consecFills := fills, line := some k } } }

theorem takeRecord_found {r : LineRecord} {rest : List LineRecord} {m : Nat} (h : s.scan.store = r :: rest)
    (hm : r.line = m) : takeRecord m s = (some r, { s with scan := { s.scan with store := rest } }) := by
  simp only [takeRecord, h, if_pos hm]
  rfl

theorem takeRecord_missing {m : Nat} (h : ∀ r ∈ s.scan.store.head?, r.line ≠ m) : takeRecord m s = (none, s) := by
  cases hs : s.scan.store with
  | nil => simp only [takeRecord, hs]
  | cons r rest =>
    have hr : r.line ≠ m := h r (by rw [hs]; rfl)
    simp only [takeRecord, hs, if_neg hr]

theorem senderSample_record {r : LineRecord} {rest : List LineRecord} (hp : s.sender.pass = some p)
    (hc : s.sender.circ = .picture) (hl : p.line = none) (h : s.scan.store = r :: rest) (hm : r.line = p.sent + 1) :
    senderSample 48 s = s.lineTaken p ⟨r.codes, false, r.heldRef, r.drift⟩ 0 rest := by
  rw [senderSample_takes hp hc hl]
  simp only [takeLine, takeRecord_found h hm]
  rw [onPass_eq (by exact hp)]
  rfl

theorem senderSample_fill (hp : s.sender.pass = some p) (hc : s.sender.circ = .picture) (hl : p.line = none)
    (h : ∀ r ∈ s.scan.store.head?, r.line ≠ p.sent + 1) :
    senderSample 48 s =
      s.lineTaken p ⟨p.lastCodes.getD (List.replicate 1232 0), true, false, false⟩ (p.consecFills + 1)
        s.scan.store := by
  rw [senderSample_takes hp hc hl]
  simp only [takeLine, takeRecord_missing h]
  rw [onPass_eq hp]
  rfl

/-- What a sample position leaves behind at the Sender, whatever the pass: the Sender moves and takes from the store
alone, and only by a take. -/
theorem senderSample_frame (pos : Nat) (s : State) :
    ∃ store y, senderSample pos s = { s with scan := { s.scan with store := store }, sender := y } ∧
      (pos ≠ 48 ∨ s.sender.circ ≠ .picture → store = s.scan.store) := by
  cases hp : s.sender.pass with
  | none => exact ⟨_, _, senderSample_other pos (.inl hp), fun _ => rfl⟩
  | some p =>
    by_cases hphasing : s.sender.circ = .phasing
    · exact ⟨_, _, senderSample_phasing pos hp hphasing, fun _ => rfl⟩
    · by_cases hpicture : s.sender.circ = .picture
      · by_cases htake : pos = 48 ∧ p.line = none
        · obtain ⟨rfl, hl⟩ := htake
          have hno : ¬ (48 ≠ 48 ∨ s.sender.circ ≠ .picture) := by simp [hpicture]
          cases hs : s.scan.store with
          | nil =>
            exact ⟨_, _, senderSample_fill hp hpicture hl (by rw [hs]; nofun), fun h => absurd h hno⟩
          | cons r rest =>
            by_cases hr : r.line = p.sent + 1
            · exact ⟨_, _, senderSample_record hp hpicture hl hs hr, fun h => absurd h hno⟩
            · refine ⟨_, _, senderSample_fill hp hpicture hl ?_, fun h => absurd h hno⟩
              rw [hs]
              rintro k ⟨⟩
              exact hr
        · exact ⟨_, _, senderSample_picture hp hpicture htake, fun _ => rfl⟩
      · exact ⟨_, _, senderSample_other pos (.inr ⟨hphasing, hpicture⟩), fun _ => rfl⟩

/-- Settles O42: the Sender's sample in PHASING and in PICTURE, the drive and the Scan Unit leaving the Sender and the
store as they are. -/
theorem tonesAtSamplePositions : Obligations.TonesAtSamplePositions := by
  intro s pos b q p hon hs hn hq hpos hstep hscan hp
  obtain ⟨d, c, k, hread, hstore⟩ : ∃ d c k, calSample pos b.toNat (scanPosition pos b.toNat (driveSample pos s)) =
      { s with drive := d, scan := c, cal := k } ∧ c.store = s.scan.store := by
    by_cases hfault : pos = 48 ∧ s.drive.stepWaiting = true
    · obtain ⟨rfl, hwaiting⟩ := hfault
      have hmissed : ∀ x, s.stepMissed.scan.pass = some x → x.failed = false ∧ (48 = 32 → x.invalid < 11) := by
        intro x hx
        obtain ⟨y, hy, rfl⟩ := Option.map_eq_some_iff.mp hx
        exact ⟨(hscan y hy).1, nofun⟩
      rw [driveSample_faults hwaiting, if_neg (Nat.ne_of_lt (hstep rfl hwaiting)),
        scanPosition_reads _ (by exact (scanSample_unfailed _ hmissed).2)]
      exact ⟨_, _, _, rfl, (scanSample_unfailed _ hmissed).1⟩
    · rw [driveSample_passes fun h => by simpa using fun hw => hfault ⟨h, hw⟩,
        scanPosition_reads _ (by exact (scanSample_unfailed _ hscan).2)]
      exact ⟨_, _, _, rfl, (scanSample_unfailed _ hscan).1⟩
  have hexec := exec_samplePosition b hon hn hq hpos
  rw [hread] at hexec
  refine ⟨fun hc => ⟨_, hexec, ?phasing⟩, fun hc h => ⟨_, hexec, ?clamp⟩, fun l hc h hl => ⟨_, hexec, ?code⟩,
    fun r rest hc h hl hr hm => ⟨_, hexec, ?record⟩, fun hc h hl hr => ⟨_, hexec, ?fill⟩⟩
  case phasing =>
    rw [senderSample_phasing pos (by exact hp) (by exact hc), finish_resting (by exact hs)]
  case clamp =>
    rw [senderSample_picture (by exact hp) (by exact hc) fun h' => by omega, pictureTone_clamp h,
      finish_resting (by exact hs)]
  case code =>
    have hmade : ¬ (pos = 48 ∧ p.line = none) := by simp [hl]
    rw [senderSample_picture (by exact hp) (by exact hc) hmade, pictureTone_code h hl, finish_resting (by exact hs)]
    exact ⟨rfl, hstore⟩
  case record =>
    subst h
    rw [senderSample_record (by exact hp) (by exact hc) hl (hstore.trans hr) hm, finish_resting (by exact hs)]
    exact ⟨rfl, rfl⟩
  case fill =>
    subst h
    have hmissing : ∀ r ∈ c.store.head?, r.line ≠ p.sent + 1 := by
      rw [hstore]
      exact hr
    rw [senderSample_fill (by exact hp) (by exact hc) hl hmissing, finish_resting (by exact hs)]
    exact ⟨hstore, rfl⟩

end Sys2Proof.Machine
end

section
/-! PROOFS. The samples of a revolution at the Scan Unit and the Calibration Unit, the twelfth invalid reference and a
step fault (R42, R44, R53 to R58, R78, R144). -/

namespace Sys2Proof.Machine

variable {s t : State} {p : Pass} {c : ScanPass} {l : ScanLine} {pos q : Nat} {b : BitVec 12} {r : Reason}

/-! ### A sample that fails nothing -/

/-- The calibration run's sums and means after a sample (R78). -/
def CalRun.sampled (r : CalRun) (pos v : Nat) : CalRun :=
  if pos < 16 then { r with whiteSum := r.whiteSum + v }
  else if pos < 32 then { r with blackSum := r.blackSum + v }
  else if pos = 32 then { r with means := some (r.whiteSum / 16, r.blackSum / 16) }
  else r

theorem calSample_eq (pos v : Nat) (s : State) :
    calSample pos v s = { s with cal := { s.cal with run := s.cal.run.map fun r => r.sampled pos v } } := rfl

/-- The state in which a sample reaches the Sender, nothing having failed. -/
def State.sampled (s : State) (pos v : Nat) : State :=
  { s.positionPassed pos with
    scan := scanSample pos v s.scan
    cal := { s.cal with run := s.cal.run.map fun r => r.sampled pos v } }

/-- A sample position at which nothing fails: the drive, the Scan Unit and the Calibration Unit read it, and the Sender
moves and takes from the store. -/
theorem exec_sampleRead (hon : s.powered = true) (hs : s.resting) (hn : s.drive.nextPos = some q) (hq : q ≤ pos)
    (hpos : pos < 1280) (hstep : pos = 48 → s.drive.stepWaiting = false)
    (hstore : (scanSample pos b.toNat s.scan).store = s.scan.store)
    (hscan : (scanSample pos b.toNat s.scan).referenceFailed = false) :
    ∃ t, exec (.samplePosition pos b) s = .next t ∧ t.drive.nextPos = some (pos + 1) ∧
      t.cal.run = (s.cal.run.map fun r => r.sampled pos b.toNat) ∧
      t.scan = { scanSample pos b.toNat s.scan with store := t.scan.store } ∧
      (pos ≠ 48 ∨ s.sender.circ ≠ .picture → t.scan.store = s.scan.store) := by
  have hexec := exec_samplePosition b hon hn hq hpos
  rw [driveSample_passes hstep, scanPosition_reads _ (by exact hscan), calSample_eq] at hexec
  obtain ⟨store, y, hframe, hkept⟩ := senderSample_frame pos (s.sampled pos b.toNat)
  have hexec : exec (.samplePosition pos b) s = .next (finish (senderSample pos (s.sampled pos b.toNat))) := hexec
  rw [hframe, finish_resting (by exact hs)] at hexec
  exact ⟨_, hexec, rfl, rfl, rfl, fun h => (hkept h).trans hstore⟩

/-! ### A sample at which the pass fails -/

theorem finish_closed_cal (k : Calib) (hp : s.sender.pass = some p) (ho : p.outcome.getD .failed = .failed)
    (hh : s.holdsJob p) (hr : s.releasedJob = none) :
    (finish { closePass s with cal := k }).now = s.now ∧
      (finish { closePass s with cal := k }).link = (s.link.posted (p.endReports .failed p.reason)).pumped ∧
      s.closes (finish { closePass s with cal := k }) p .failed := by
  obtain ⟨hlink, hnow, hcloses⟩ := closePass_closes hp ho hh
  rw [finish_unreleased (by exact closes_releasedJob hcloses hr)]
  exact ⟨hnow, congrArg Link.pumped hlink, hcloses⟩

/-- A pass that has been closed is nothing to the rest of its sample position. -/
theorem samplePosition_closed (v : Nat) (hp : s.sender.pass = none) :
    senderSample pos (calSample pos v s) =
      { s with cal := { s.cal with run := s.cal.run.map fun r => r.sampled pos v } } :=
  senderSample_other pos (.inl hp)

theorem closes_pass (h : s.closes t p .failed) : t.sender.pass = none ∧ t.scan.pass = none := by
  obtain ⟨-, hsender, -, -, hscan, -⟩ := h
  exact ⟨by rw [hsender], hscan⟩

theorem scanPosition_fails (v : Nat) {d : Scan} (hd : scanSample pos v s.scan = d) (hf : d.referenceFailed = true)
    (hs : s.scan.referenceFailed = false) : scanPosition pos v s = failPass .reference { s with scan := d } := by
  have hsampled : s.onScan (scanSample pos v) = { s with scan := d } := by rw [← hd]; rfl
  unfold scanPosition
  dsimp only
  rw [hsampled]
  exact if_pos (by simp [hf, hs])

theorem referenceFailed_false {d : Scan} (hx : ∀ x, d.pass = some x → x.failed = false) : d.referenceFailed = false := by
  unfold Scan.referenceFailed
  split
  · rfl
  next x h => exact hx x h

theorem Scan.over_some {d : Scan} {x : ScanPass} (hx : d.pass = some x) (he : x.ended = false) :
    d.over = { d with store := [], pass := some { x with line := none, ended := true } } := by
  simp only [Scan.over, hx, he, Bool.false_eq_true, if_false]

theorem carriageFault_pass (hp : s.sender.pass = some p) :
    carriageFault s = failPass .carriage { s with link := s.link.posted [.drumFault .carriage] } := by
  simp only [carriageFault, post_eq, hp]

/-- A position at which no line is read and the Sender puts nothing out. -/
theorem samplePosition_silent (v : Nat) (hline : ∀ x, s.scan.pass = some x → x.line = none)
    (hfailed : s.scan.referenceFailed = false)
    (hsender : s.sender.pass = none ∨ (s.sender.circ ≠ .phasing ∧ s.sender.circ ≠ .picture)) :
    senderSample pos (calSample pos v (scanPosition pos v s)) =
      { s with cal := { s.cal with run := s.cal.run.map fun r => r.sampled pos v } } := by
  have hidle : scanSample pos v s.scan = s.scan := scanSample_idle pos v hline
  have hsame : scanPosition pos v s = s := by
    rw [scanPosition_reads v (by rw [hidle]; exact hfailed), hidle]
  rw [hsame]
  exact senderSample_other pos hsender

/-- At position 48 a pass in PICTURE with no line taken takes one, and any other pass takes none. -/
theorem senderSample_take (hp : s.sender.pass = some p) (hline : p.line = none) :
    ∃ store y, senderSample 48 s = { s with scan := { s.scan with store := store }, sender := y } ∧
      y.circ = s.sender.circ ∧ (s.sender.circ = .picture → ∃ u, y.pass = some u ∧ u.line.isSome) ∧
      (s.sender.circ ≠ .picture → y.pass = some p) := by
  by_cases hpicture : s.sender.circ = .picture
  · by_cases hrecord : ∃ r rest, s.scan.store = r :: rest ∧ r.line = p.sent + 1
    · obtain ⟨r, rest, hstore, hr⟩ := hrecord
      exact ⟨_, _, senderSample_record hp hpicture hline hstore hr, rfl, fun _ => ⟨_, rfl, rfl⟩,
        fun h => absurd hpicture h⟩
    · have hmissing : ∀ r ∈ s.scan.store.head?, r.line ≠ p.sent + 1 := by
        intro r hr hn
        obtain ⟨rest, hstore⟩ := List.head?_eq_some_iff.mp hr
        exact hrecord ⟨r, rest, hstore, hn⟩
      exact ⟨_, _, senderSample_fill hp hpicture hline hmissing, rfl, fun _ => ⟨_, rfl, rfl⟩,
        fun h => absurd hpicture h⟩
  · by_cases hphasing : s.sender.circ = .phasing
    · exact ⟨_, _, senderSample_phasing 48 hp hphasing, rfl, fun h => absurd h hpicture, fun _ => hp⟩
    · exact ⟨_, _, senderSample_other 48 (.inr ⟨hphasing, hpicture⟩), rfl, fun h => absurd h hpicture, fun _ => hp⟩

/-- The twelfth invalid reference in a row: the Scan Unit fails the pass, the line in progress gone (R56). -/
def Scan.twelfth (d : Scan) (c : ScanPass) : Scan :=
  { d with pass := some { c with invalid := 12, heldRefs := c.heldRefs + 1, line := none, failed := true } }

/-- The state in which the failure REFERENCE reaches the pass. -/
def State.unreferenced (s : State) (c : ScanPass) : State :=
  { s.positionPassed 32 with scan := s.scan.twelfth c }

theorem exec_twelfth (hon : s.powered = true) (hn : s.drive.nextPos = some q) (hq : q ≤ 32)
    (hc : s.scan.pass = some c) (hl : c.line = some l) (hfailed : c.failed = false)
    (hvalid : ¬ (2000 ≤ l.whiteSum / 16 ∧ l.blackSum / 16 + 1024 ≤ l.whiteSum / 16)) (hinvalid : c.invalid = 11) :
    exec (.samplePosition 32 b) s =
      .next (finish (senderSample 32 (calSample 32 b.toNat (failPass .reference (s.unreferenced c))))) := by
  have hread : scanSample 32 b.toNat s.scan = s.scan.twelfth c :=
    (scanSample_reference hc hl).trans (lineReference_failed c l _ hvalid (Nat.le_of_eq hinvalid.symm))
  have hunfailed : s.scan.referenceFailed = false :=
    referenceFailed_false fun x hx => by cases hc.symm.trans hx; exact hfailed
  have hfails : scanPosition 32 b.toNat (s.positionPassed 32) = failPass .reference (s.unreferenced c) :=
    scanPosition_fails _ hread rfl hunfailed
  rw [exec_samplePosition b hon hn hq (by decide), driveSample_passes (pos := 32) nofun, hfails]

/-- The state in which the failure CARRIAGE of a third step fault reaches the pass. -/
def State.thirdFault (s : State) : State :=
  { s.stepMissed with link := s.link.posted [.drumFault .carriage] }

theorem exec_thirdFault (hon : s.powered = true) (hn : s.drive.nextPos = some q) (hq : q ≤ 48)
    (hstep : s.drive.stepWaiting = true) (hp : s.sender.pass = some p) (h2 : s.drive.stepFaults = 2) :
    exec (.samplePosition 48 b) s =
      .next (finish (senderSample 48 (calSample 48 b.toNat
        (scanPosition 48 b.toNat (failPass .carriage s.thirdFault))))) := by
  rw [exec_samplePosition b hon hn hq (by decide), driveSample_faults hstep, if_pos h2,
    carriageFault_pass (by exact hp)]
  rfl

/-- Settles O41: the sample read, the twelfth invalid reference, and the step not confirmed. -/
theorem samplesRead : Obligations.SamplesRead := by
  refine ⟨fun s pos b q c l hon hs hn hq hpos hstep hc hl hended hfailed hlast => ?read,
    fun s b q p c l hon hs hn hq hp hmid hc hl hended hfailed hvalid hinvalid => ⟨fun hb => ?signalled, fun hb hh => ?closed⟩,
    fun s b q p c l hon hs hn hq hstep hp hmid hline hc hl hended hfailed =>
      ⟨fun hn2 => ?spoiled, fun h2 hb => ?fault, fun h2 hb hh => ?faultClosed⟩⟩
  case read =>
    have hsample : (scanSample pos b.toNat s.scan).store = s.scan.store ∧
        (scanSample pos b.toNat s.scan).referenceFailed = false := by
      by_cases hvalid : pos = 32 ∧ 2000 ≤ l.whiteSum / 16 ∧ l.blackSum / 16 + 1024 ≤ l.whiteSum / 16
      · obtain ⟨rfl, hvalid⟩ := hvalid
        rw [scanSample_reference hc hl, lineReference_valid c l _ hvalid]
        exact ⟨rfl, hfailed⟩
      · refine scanSample_unfailed _ fun x hx => ?_
        cases hc.symm.trans hx
        exact ⟨hfailed, fun h => by omega⟩
    obtain ⟨hstore, hunfailed⟩ := hsample
    obtain ⟨t, hexec, hnext, hrun, hscan, hkept⟩ := exec_sampleRead hon hs hn hq hpos hstep hstore hunfailed
    have hread : ∀ d : Scan, scanSample pos b.toNat s.scan = d → d.store = s.scan.store → pos ≠ 48 → t.scan = d :=
      fun d hd hds h => by rw [hscan, hkept (.inl h), hd, ← hds]
    refine ⟨t, hexec, hnext, hrun, fun h => ?white, fun h h' => ?black, fun h hvalid => ?valid, fun h hvalid => ?held,
      fun h h' => ?clamp, fun h hcodes => ?code⟩
    case white => exact hread _ (scanSample_white hc hl h) rfl (by omega)
    case black => exact hread _ (scanSample_black hc hl h h') rfl (by omega)
    case valid =>
      subst h
      exact hread _ ((scanSample_reference hc hl).trans (lineReference_valid c l _ hvalid)) rfl nofun
    case held =>
      subst h
      exact hread _ ((scanSample_reference hc hl).trans (lineReference_held c l _ hvalid (by omega))) rfl nofun
    case clamp => exact hread _ (scanSample_clamp hc hl h h') rfl (by omega)
    case code =>
      refine ⟨hscan.trans ?_, hkept⟩
      rw [scanSample_code hc hl h, padCodes_full hcodes]
  case signalled =>
    have hover : (s.scan.twelfth c).over = _ := Scan.over_some rfl hended
    refine ⟨_, p.decided .failed (some .reference), exec_twelfth hon hn hq hc hl hfailed hvalid hinvalid, ?_⟩
    rw [failPass_signals (by exact hp) (by exact hmid) hb, calSample_eq, senderSample_other _ (by exact .inr ⟨nofun, nofun⟩),
      finish_resting (by exact hs)]
    exact ⟨rfl, rfl, rfl, rfl, rfl, rfl, rfl, rfl, rfl, hover⟩
  case closed =>
    refine ⟨_, exec_twelfth hon hn hq hc hl hfailed hvalid hinvalid, ?_⟩
    let u := (s.unreferenced c).failed p .reference
    have hcloses := closePass_closes (s := u) (p := p.decided .failed (some .reference)) (o := .failed) rfl rfl hh
    rw [failPass_closes (by exact hp) (.inr ⟨by exact hmid, hb⟩), samplePosition_closed _ (closes_pass hcloses.2.2).1]
    obtain ⟨hnow, hlink, hdet, hsender, hrounds, hmask, hscan, hempty, hrest⟩ :=
      finish_closed_cal (s := u) _ (p := p.decided .failed (some .reference)) rfl rfl hh hs.1
    exact ⟨hnow, hlink, hdet, hsender, hrounds, hmask, hscan, fun _ => hempty (by simp [u, State.failed,
      State.unreferenced, Scan.twelfth, hended]), hrest⟩
  case spoiled =>
    have hspoiled : s.stepMissed.scan.pass = some { c with line := some { l with spoiled := true } } := by
      simp only [State.stepMissed, hc, hl, Option.map_some]
    have hread := scanSample_code (v := b.toNat) hspoiled rfl (le_refl 48)
    have hunfailed : (scanSample 48 b.toNat s.stepMissed.scan).referenceFailed = false := by
      rw [hread]
      exact hfailed
    have hexec := exec_samplePosition b hon hn hq (by decide)
    rw [driveSample_faults hstep, if_neg (Nat.ne_of_lt hn2), scanPosition_reads _ hunfailed, calSample_eq] at hexec
    obtain ⟨store, y, hframe, hcirc, htaken, hkept⟩ := senderSample_take (p := p)
      (s := { s.stepMissed with
        scan := scanSample 48 b.toNat s.stepMissed.scan
        cal := { s.cal with run := s.cal.run.map fun r => r.sampled 48 b.toNat } }) hp hline
    refine ⟨_, hexec.trans (congrArg (fun x => Host.Outcome.next (finish x)) hframe), ?_⟩
    rw [finish_resting (by exact hs)]
    refine ⟨Nat.min_eq_right (Nat.succ_le_succ (Nat.le_of_lt hn2)), rfl, rfl, rfl, hcirc, ?_, htaken, hkept⟩
    rw [hread]
    exact ⟨_, rfl, rfl, rfl⟩
  case fault =>
    have hover : s.thirdFault.scan.over.pass =
        some { c with line := none, ended := true } ∧ s.thirdFault.scan.over.store = [] := by
      have hspoiled : s.thirdFault.scan.pass = some { c with line := some { l with spoiled := true } } := by
        simp only [State.thirdFault, State.stepMissed, hc, hl, Option.map_some]
      rw [Scan.over_some hspoiled hended]
      exact ⟨rfl, rfl⟩
    obtain ⟨hpass, hstore⟩ := hover
    have hline' : ∀ x, s.thirdFault.scan.over.pass = some x → x.line = none ∧ x.failed = false := fun x hx => by
      cases hpass.symm.trans hx
      exact ⟨rfl, hfailed⟩
    refine ⟨_, p.decided .failed (some .carriage), exec_thirdFault hon hn hq hstep hp h2, ?_⟩
    rw [failPass_signals (by exact hp) (by exact hmid) hb,
      samplePosition_silent _ (fun x hx => (hline' x hx).1) (referenceFailed_false fun x hx => (hline' x hx).2)
        (by exact .inr ⟨nofun, nofun⟩), finish_resting (by exact hs)]
    exact ⟨by simp [State.failing, State.thirdFault, State.stepMissed, h2], rfl, rfl, rfl, rfl, rfl, rfl, rfl, hstore,
      _, hpass, rfl, rfl⟩
  case faultClosed =>
    refine ⟨_, exec_thirdFault hon hn hq hstep hp h2, ?_⟩
    let u := s.thirdFault.failed p .carriage
    obtain ⟨-, -, hclosed⟩ := closePass_closes (s := u) (p := p.decided .failed (some .carriage)) (o := .failed) rfl rfl hh
    obtain ⟨hpass, hscanPass⟩ := closes_pass hclosed
    rw [failPass_closes (by exact hp) (.inr ⟨by exact hmid, hb⟩),
      samplePosition_silent _ (fun x hx => by rw [hscanPass] at hx; cases hx)
        (referenceFailed_false fun x hx => by rw [hscanPass] at hx; cases hx) (.inl hpass)]
    obtain ⟨hnow, hlink, hdet, hsender, hrounds, hmask, hscan, hempty, hrest⟩ :=
      finish_closed_cal (s := u) _ (p := p.decided .failed (some .carriage)) rfl rfl hh hs.1
    refine ⟨hnow, hlink.trans (congrArg Link.pumped (posted_append ..)), hdet, hsender, hrounds, hmask, hscan,
      fun _ => hempty (by simp [u, State.failed, State.thirdFault, State.stepMissed, hc, hended]), hrest⟩

end Sys2Proof.Machine
end

section
/-! PROOFS. The end of a slot within a round (R102, R103, R115 to R119, R126, R129, R140). -/

namespace Sys2Proof.Machine

variable {s t : State} {p q : Pass} {r : Rounds} {e : Party} {k : ReplyKind} {n : Nat} {f : Party → Party}

/-! ### The step of a slot end -/

/-- The state in which the result of a slot reaches the Sender: a garbled slot counted (R103). -/
def State.slotRead (s : State) (r : Rounds) : State :=
  { s with
    now := max s.now r.slotEnds
    circuit :=
      { s.circuit with
        garble := if decideSlot r = .garbled then min 65535 (s.circuit.garble + 1) else s.circuit.garble } }

theorem countGarble_eq (r : Rounds) (s : State) : countGarble (decideSlot r) (advanceTo r.slotEnds s) = s.slotRead r := by
  unfold countGarble State.slotRead
  split <;> rfl

theorem nextSlot_within (h : r.slot + 1 < r.slots) (brk : Bool) :
    nextSlot r brk = ⟨r.slots, r.round, r.slot + 1, r.slotEnds + 250, false, [], brk⟩ := by
  have hlast : r.lastSlot = false := decide_eq_false (Nat.not_le.mpr h)
  unfold nextSlot
  rw [hlast, if_neg nofun]
  rfl

/-- What the Sender makes of the result of the slot that ends. -/
abbrev State.slotTaken (s : State) (r : Rounds) : State :=
  senderSlot (r.slot + 1) r.round ⟨decideSlot r, r.breakSeen⟩ (s.slotRead r)

theorem slotEnd_eq (hr : s.circuit.rounds = some r) :
    slotEnd s =
      onRounds (fun _ => nextSlot r (roundEnd r (s.slotTaken r)).breakPresent) (roundEnd r (s.slotTaken r)) := by
  simp only [slotEnd, hr, countGarble_eq]

theorem roundEnd_within (h : r.slot + 1 < r.slots) (t : State) : roundEnd r t = t := by
  have hlast : r.lastSlot = false := decide_eq_false (Nat.not_le.mpr h)
  unfold roundEnd
  rw [hlast, Bool.and_false, if_neg nofun]

section SlotEnd

variable (hon : s.powered = true) (hr : s.circuit.rounds = some r) (h : r.slot + 1 < r.slots)

include hon hr h

/-- A slot end after which rounds go on. -/
theorem exec_slotEnd_on {x : Rounds} (ht : (s.slotTaken r).circuit.rounds = some x) (hs : (s.slotTaken r).resting) :
    exec .slotEnd s =
      .next
        { s.slotTaken r with
          link := (s.slotTaken r).link.pumped
          circuit :=
            { (s.slotTaken r).circuit with
              rounds :=
                some ⟨r.slots, r.round, r.slot + 1, r.slotEnds + 250, false, [], (s.slotTaken r).breakPresent⟩ } } := by
  have hexec : exec .slotEnd s = .next (finish (slotEnd s)) := exec_finish rfl hon
  rw [hexec, slotEnd_eq hr, roundEnd_within h, nextSlot_within h, onRounds_eq _ ht, finish_resting (by exact hs)]

/-- A slot end that changes the link, the roster and the Sender alone. -/
theorem exec_slotEnd_goes {l : Link} {roster : List Station} {x : Sender} (hs : s.resting)
    (ht : s.slotTaken r =
      { s.slotRead r with link := l, circuit := { (s.slotRead r).circuit with roster := roster }, sender := x }) :
    exec .slotEnd s =
      .next
        { s.slotRead r with
          link := l.pumped
          circuit :=
            { (s.slotRead r).circuit with
              roster := roster
              rounds := some ⟨r.slots, r.round, r.slot + 1, r.slotEnds + 250, false, [], s.breakPresent⟩ }
          sender := x } := by
  rw [exec_slotEnd_on hon hr h (by rw [ht]; exact hr) (by rw [ht]; exact hs), ht]
  rfl

/-- A slot end at which the pass, and with it the rounds, came to their end. -/
theorem exec_slotEnd_stopped (ht : (s.slotTaken r).circuit.rounds = none) :
    exec .slotEnd s = .next (finish (s.slotTaken r)) := by
  have hexec : exec .slotEnd s = .next (finish (slotEnd s)) := exec_finish rfl hon
  rw [hexec, slotEnd_eq hr, roundEnd_within h, onRounds_none _ ht]

end SlotEnd

/-! ### The result noted in the party (R125) -/

/-- The party with the result of a slot noted for its owner, whose entry is changed. -/
def Pass.noted (p : Pass) (owner : Nat) (res : SlotResult) (f : Party → Party) : List Party :=
  p.party.map fun e => if e.station = owner then f { e with result := some res } else e

theorem updParty_eq (hp : s.sender.pass = some p) (n : Nat) (f : Party → Party) :
    updParty n f s = s.withPass { p with party := p.party.map fun e => if e.station = n then f e else e } := by
  rw [updParty, onPass_eq hp]
  rfl

/-- The pass with a result noted. -/
def Pass.heard (p : Pass) (owner : Nat) (res : SlotResult) (f : Party → Party) : Pass :=
  { p with party := p.noted owner res f }

theorem updParty_heard {owner : Nat} {res : SlotResult} (hp : s.sender.pass = some (p.heard owner res id))
    (f : Party → Party) : updParty owner f s = s.withPass (p.heard owner res f) := by
  rw [updParty_eq hp]
  refine congrArg (fun l => s.withPass { p with party := l }) ?_
  refine (List.map_map ..).trans (List.map_congr_left fun e _ => ?_)
  by_cases he : e.station = owner
  · simp [he]
  · simp [he]

theorem Pass.noted_nobody {owner : Nat} (res : SlotResult) (f : Party → Party)
    (h : ∀ e ∈ p.party, e.station ≠ owner) : p.noted owner res f = p.party := by
  refine (List.map_congr_left fun e he => ?_).trans (List.map_id _)
  rw [if_neg (h e he)]
  rfl

theorem entry_none {owner : Nat} (h : p.entry owner = none) : ∀ e ∈ p.party, e.station ≠ owner := by
  simpa [Pass.entry] using h

theorem entry_station {owner : Nat} (h : p.entry owner = some e) : e.station = owner := by
  simpa using List.find?_some h

/-- A slot that brings the Sender no reply: its result noted. -/
theorem senderSlot_unanswered {owner round : Nat} {res : SlotResult} (hp : s.sender.pass = some p)
    (h : (∀ k, res.kind ≠ .reply k) ∨ ∀ e ∈ p.party, e.station ≠ owner) :
    senderSlot owner round res s = s.withPass (p.heard owner res id) := by
  cases he : p.entry owner with
  | none =>
    have hsame : p.heard owner res id = p := by
      rw [Pass.heard, Pass.noted_nobody res id (entry_none he)]
    have hstep : senderSlot owner round res s = s := by simp only [senderSlot, hp, he]
    rw [hstep, hsame, State.withPass, ← hp]
  | some e =>
    have hkind : ∀ k, res.kind ≠ .reply k :=
      h.resolve_right fun hnone => hnone e (List.mem_of_find?_eq_some he) (entry_station he)
    have hstep : senderSlot owner round res s =
        updParty owner (fun e => { e with result := some res }) s := by
      cases hres : res.kind with
      | empty => simp only [senderSlot, hp, he, hres]
      | garbled => simp only [senderSlot, hp, he, hres]
      | reply k => exact absurd hres (hkind k)
    rw [hstep, updParty_eq hp]
    rfl

theorem senderSlot_answered {owner round : Nat} {res : SlotResult} (hp : s.sender.pass = some p)
    (he : p.entry owner = some e) (hk : res.kind = .reply k) :
    senderSlot owner round res s = partyReply k e round p (s.withPass (p.heard owner res id)) := by
  have hstep : senderSlot owner round res s =
      partyReply k e round p (updParty owner (fun e => { e with result := some res }) s) := by
    simp only [senderSlot, hp, he, hk]
  rw [hstep, updParty_eq hp]
  rfl

/-! ### A reply by the state of its station and of the circuit (R115 to R119, R126, R129, R140, R146) -/

/-- The circuit states in which a reply of a joined station counts (R117, R126, R140). -/
abbrev CircuitState.watching (c : CircuitState) : Prop :=
  c = .answer ∨ c = .phasing ∨ c = .picture ∨ c = .paused

abbrev CircuitState.collecting (c : CircuitState) : Prop := c = .ending ∨ c = .gathering

/-- A late READY is told by the circuit state (R119). -/
theorem windowClosed_iff (c : CircuitState) (p : Pass) :
    windowClosed c p = true ↔
      (c = .answer ∧ p.windowOpen = false) ∨ c = .phasing ∨ c = .picture ∨ c.collecting ∨ c = .killing ∨
        (c = .paused ∧ p.resume ≠ some .callup) := by
  cases c <;> simp [windowClosed, CircuitState.collecting]

theorem partyReply_absent (round : Nat) (p : Pass) (s : State) (ha : e.state = .absent) :
    partyReply .ready e round p s = if windowClosed s.sender.circ p then lateReady e s else s := by
  unfold partyReply
  rw [if_pos ⟨rfl, ha⟩]

theorem partyReply_joined (k : ReplyKind) (round : Nat) (p : Pass) (s : State) (hj : e.state = .joined) :
    partyReply k e round p s =
      match s.sender.circ with
      | .answer => if p.windowOpen then joinedReply k e.station s else joinedReplyTested k e.station s
      | .phasing => joinedReplyTested k e.station s
      | .picture => joinedReplyTested k e.station s
      | .paused => if s.stage = .sending then joinedReplyTested k e.station s else joinedReply k e.station s
      | .ending => gatheringReply k e.station s
      | .gathering => gatheringReply k e.station s
      | _ => s := by
  have habsent : ¬ (k = .ready ∧ e.state = .absent) := by simp [hj]
  unfold partyReply
  rw [if_neg habsent, if_pos hj]
  cases s.sender.circ <;> rfl

/-- In a pause the picture is being sent where it resumes in PHASING (R144). -/
theorem stage_paused (hp : s.sender.pass = some q) (hc : s.sender.circ = .paused) (hq : q.resume = p.resume) :
    s.stage = .sending ↔ p.resume = some .rephase ∨ p.resume = some .phasing := by
  rw [State.stage, hp]
  dsimp only
  rw [hc, hq]
  cases p.resume with
  | none => simp [stageOf]
  | some pt => cases pt <;> simp [stageOf]

/-- A reply of a joined station that counts, with the NO_PARTY test where the window has closed (R118). -/
theorem partyReply_watching (k : ReplyKind) (round : Nat) (hp : s.sender.pass = some q) (hq : q.resume = p.resume)
    (hj : e.state = .joined) (hw : s.sender.circ.watching) :
    partyReply k e round p s =
      if (s.sender.circ = .answer ∧ p.windowOpen = false) ∨ s.midPicture p then joinedReplyTested k e.station s
      else joinedReply k e.station s := by
  rw [partyReply_joined k round p s hj]
  obtain hc | hc | hc | hc := hw
  · cases hwindow : p.windowOpen <;> simp [hc]
  · simp [hc]
  · simp [hc]
  · simp [State.midPicture, hc, stage_paused hp hc hq]

theorem partyReply_collecting (k : ReplyKind) (round : Nat) (p : Pass) (hj : e.state = .joined)
    (hc : s.sender.circ.collecting) : partyReply k e round p s = gatheringReply k e.station s := by
  rw [partyReply_joined k round p s hj]
  obtain hc | hc := hc
  · rw [hc]
  · rw [hc]

theorem partyReply_joins (round : Nat) (hi : e.state = .invited) (hm : e.maskedInWindow = false)
    (hc : s.sender.circ = .answer) (hw : p.windowOpen = true) :
    partyReply .ready e round p s = joinStation e.station round s := by
  simp [partyReply, hi, hm, hc, hw]

/-- The replies that are ignored (R115, R116, R129, R146). -/
theorem partyReply_ignored (k : ReplyKind) (round : Nat) (p : Pass) (s : State)
    (habsent : k = .ready → e.state = .absent → windowClosed s.sender.circ p = false)
    (hjoined : e.state = .joined → s.sender.circ = .callup ∨ s.sender.circ = .killing ∨
      (s.sender.circ.collecting ∧ k ≠ .received ∧ k ≠ .repeatPass))
    (hinvited : e.state = .invited → k = .ready → e.maskedInWindow = false → s.sender.circ = .answer →
      p.windowOpen = false) :
    partyReply k e round p s = s := by
  by_cases ha : k = .ready ∧ e.state = .absent
  · obtain ⟨rfl, ha⟩ := ha
    rw [partyReply_absent round p s ha, habsent rfl ha, if_neg nofun]
  · by_cases hj : e.state = .joined
    · rw [partyReply_joined k round p s hj]
      obtain hc | hc | ⟨hc, h1, h2⟩ := hjoined hj
      · rw [hc]
      · rw [hc]
      · have hignored : gatheringReply k e.station s = s := by
          cases k <;> first | rfl | exact absurd rfl h1 | exact absurd rfl h2
        obtain hc | hc := hc
        · rw [hc]
          exact hignored
        · rw [hc]
          exact hignored
    · unfold partyReply
      rw [if_neg ha, if_neg hj, if_neg]
      rintro ⟨hk, hi, hm, hc, hw⟩
      rw [hinvited hi hk hm hc] at hw
      cases hw

/-! ### What a reply that counts leaves -/

theorem partyReply_heard (k : ReplyKind) (round : Nat) (hp : s.sender.pass = some q) (hq : q.resume = p.resume)
    (hj : e.state = .joined) (hw : s.sender.circ.watching) (hk : k ≠ .stop) :
    partyReply k e round p s = joinedReply k e.station s := by
  have htested : joinedReplyTested k e.station s = joinedReply k e.station s := if_neg hk
  rw [partyReply_watching k round hp hq hj hw, htested, ite_self]

theorem joinedReply_clears (n : Nat) (s : State) (h : k = .ok ∨ k = .ready ∨ k = .received ∨ k = .repeatPass) :
    joinedReply k n s = updStation n (fun e => { e with silence := 0 }) s := by
  obtain rfl | rfl | rfl | rfl := h <;> rfl

theorem dropStation_heard {owner : Nat} {res : SlotResult} (why : DropReason)
    (hp : s.sender.pass = some (p.heard owner res id)) :
    dropStation why owner s =
      { s with
        link := s.link.posted [.stationDropped p.job owner why p.sent]
        sender :=
          { s.sender with
            pass := some (p.heard owner res fun e => { e with state := .dropped why p.sent }) } } := by
  simp only [dropStation, hp]
  rw [updParty_heard hp, post_eq]
  rfl

/-- After a STOP another station of the party is still joined, or none is. -/
theorem anyJoined_stopped (p : Pass) (owner : Nat) (res : SlotResult) (why : DropReason) (line : Nat) :
    (p.heard owner res fun e => { e with state := .dropped why line }).anyJoined = true ↔
      ∃ o ∈ p.party, o.station ≠ owner ∧ o.state = .joined := by
  rw [Pass.anyJoined_iff]
  constructor
  · rintro ⟨e, he, hj⟩
    obtain ⟨o, ho, rfl⟩ := List.mem_map.mp he
    by_cases hn : o.station = owner
    · rw [if_pos hn] at hj
      cases hj
    · rw [if_neg hn] at hj
      exact ⟨o, ho, hn, hj⟩
  · rintro ⟨o, ho, hn, hj⟩
    exact ⟨o, List.mem_map.mpr ⟨o, ho, if_neg hn⟩, hj⟩

theorem noPartyTest_eq (hp : s.sender.pass = some q) :
    noPartyTest s = if q.anyJoined then s else failPass .noParty s := by
  simp only [noPartyTest, hp]

theorem gatheringReply_notes {st : PartyState}
    (h : (k = .received ∧ st = .received) ∨ (k = .repeatPass ∧ st = .repeatAsked)) (n : Nat) (s : State) :
    gatheringReply k n s = updParty n (fun e => { e with state := st }) s := by
  obtain ⟨rfl, rfl⟩ | ⟨rfl, rfl⟩ := h <;> rfl

theorem joinStation_heard {owner round : Nat} {res : SlotResult} (hp : s.sender.pass = some (p.heard owner res id)) :
    joinStation owner round s =
      updStation owner (fun e => { e with silence := 0 })
        { s with
          link := s.link.posted [.stationJoined p.job owner]
          sender :=
            { s.sender with
              pass :=
                some
                  { p.heard owner res fun e => { e with state := .joined } with
                    closeRound := some (min (round + p.copy.answer) (p.openRound.getD 0 + p.copy.answerMax)) } } } := by
  simp only [joinStation, hp, clearSilence]
  rw [updParty_heard hp, onPass_eq (p := p.heard owner res fun e => { e with state := .joined }) rfl, post_eq]
  rfl

end Sys2Proof.Machine
end

section
/-! PROOFS. The end of a slot that is not the last of its round, by the reply and by the state of the circuit. -/

namespace Sys2Proof.Machine

variable {s : State} {p : Pass} {r : Rounds} {e : Party} {k : ReplyKind}

/-- The result of the slot in progress (R100). -/
abbrev Rounds.result (r : Rounds) : SlotResult := ⟨decideSlot r, r.breakSeen⟩

/-- The state in which a reply of the slot that ends finds its station's entry: the result noted (R125). -/
def State.slotNoted (s : State) (r : Rounds) (p : Pass) : State :=
  (s.slotRead r).withPass (p.heard (r.slot + 1) r.result id)

theorem slotTaken_answered (hp : s.sender.pass = some p) (he : p.entry (r.slot + 1) = some e)
    (hk : decideSlot r = .reply k) : s.slotTaken r = partyReply k e r.round p (s.slotNoted r p) :=
  senderSlot_answered (by exact hp) he hk

theorem slotTaken_unanswered (hp : s.sender.pass = some p)
    (h : (∀ k, decideSlot r ≠ .reply k) ∨ ∀ e ∈ p.party, e.station ≠ r.slot + 1) :
    s.slotTaken r = s.slotNoted r p :=
  senderSlot_unanswered (by exact hp) h

/-- The pass after a STOP in the slot that ends. -/
def Pass.stopped (p : Pass) (r : Rounds) : Pass :=
  p.heard (r.slot + 1) r.result fun e => { e with state := .dropped .stop p.sent }

/-- The state after a STOP in the slot that ends, before the NO_PARTY test (R126). -/
def State.slotStopped (s : State) (r : Rounds) (p : Pass) : State :=
  { s.slotRead r with
    link := s.link.posted [.stationDropped p.job (r.slot + 1) .stop p.sent]
    sender := { s.sender with pass := some (p.stopped r) } }

/-- A STOP of a joined station, with the NO_PARTY test where the window has closed (R118, R126). -/
theorem slotTaken_stop (hp : s.sender.pass = some p) (he : p.entry (r.slot + 1) = some e)
    (hk : decideSlot r = .reply .stop) (hj : e.state = .joined) (hw : s.sender.circ.watching) :
    s.slotTaken r =
      if ((s.sender.circ = .answer ∧ p.windowOpen = false) ∨ s.midPicture p) ∧
          ¬ ∃ o ∈ p.party, o.station ≠ r.slot + 1 ∧ o.state = .joined then
        failPass .noParty (s.slotStopped r p)
      else s.slotStopped r p := by
  have hdrop : joinedReply .stop e.station (s.slotNoted r p) = s.slotStopped r p := by
    rw [entry_station he]
    exact dropStation_heard (s := s.slotNoted r p) .stop rfl
  have htested : joinedReplyTested .stop e.station (s.slotNoted r p) =
      if ∃ o ∈ p.party, o.station ≠ r.slot + 1 ∧ o.state = .joined then s.slotStopped r p
      else failPass .noParty (s.slotStopped r p) := by
    refine (if_pos rfl).trans ?_
    rw [hdrop, noPartyTest_eq (q := p.stopped r) rfl]
    exact if_congr (anyJoined_stopped ..) rfl rfl
  rw [slotTaken_answered hp he hk,
    partyReply_watching (s := s.slotNoted r p) (p := p) .stop r.round rfl rfl hj (by exact hw),
    htested, hdrop]
  by_cases ht : (s.sender.circ = .answer ∧ p.windowOpen = false) ∨ s.midPicture p
  · rw [if_pos (by exact ht)]
    by_cases ho : ∃ o ∈ p.party, o.station ≠ r.slot + 1 ∧ o.state = .joined
    · rw [if_pos ho, if_neg fun h => h.2 ho]
    · rw [if_neg ho, if_pos ⟨ht, ho⟩]
  · rw [if_neg (by exact ht), if_neg fun h => ht h.1]

/-- Settles O45: by what the slot's result is to the Sender, rounds going on in every case but a pass's close. -/
theorem slotEnds : Obligations.SlotEnds := by
  intro s r p hon hs hr hp hlast k owner brk next noted heard quiet watching gathering lateTime
  have hgoes : ∀ (l : Link) (g : Station → Station) (x : Sender),
      s.slotTaken r =
        { s.slotRead r with
          link := l
          circuit := { (s.slotRead r).circuit with roster := s.circuit.roster.modify r.slot g }
          sender := x } →
      exec .slotEnd s = .next { quiet with link := l.pumped, circuit := heard g, sender := x } := by
    intro l g x ht
    have hbrk : s.breakPresent = brk := s.breakPresent_eq
    rw [exec_slotEnd_goes hon hr hlast hs ht, hbrk]
    rfl
  have hstill : ∀ (l : Link) (x : Sender), s.slotTaken r = { s.slotRead r with link := l, sender := x } →
      exec .slotEnd s = .next { quiet with link := l.pumped, sender := x } := by
    intro l x ht
    refine hgoes l id x ?_
    rw [List.modify_id]
    exact ht
  have hquiet : s.slotTaken r = s.slotNoted r p → exec .slotEnd s = .next quiet := fun ht => hstill s.link _ ht
  have hpass : (s.slotNoted r p).sender.pass = some (p.heard owner r.result id) := rfl
  refine ⟨fun h => hquiet (slotTaken_unanswered hp h), fun e he => ⟨fun hk hi hm hc hw => ?joins,
    fun hk hj hw => ?clears, fun hk hj hw => ?noise, fun hk hj hw => ?stop, fun st hk hj hg => ?receipt,
    fun hk ha hl => ?late, fun hignored => ?ignored⟩⟩
  case joins =>
    refine hgoes _ _ _ ((slotTaken_answered hp he hk).trans ?_)
    rw [partyReply_joins r.round hi hm (by exact hc) hw, entry_station he, joinStation_heard hpass]
    rfl
  case clears =>
    obtain ⟨x, hx, hclears⟩ : ∃ x, k = .reply x ∧ (x = .ok ∨ x = .ready ∨ x = .received ∨ x = .repeatPass) := by
      simp only [List.mem_cons, List.not_mem_nil, or_false] at hk
      obtain hk | hk | hk | hk := hk
      · exact ⟨_, hk, .inl rfl⟩
      · exact ⟨_, hk, .inr (.inl rfl)⟩
      · exact ⟨_, hk, .inr (.inr (.inl rfl))⟩
      · exact ⟨_, hk, .inr (.inr (.inr rfl))⟩
    have hstop : x ≠ .stop := by rintro rfl; simp at hclears
    refine hgoes _ _ _ ((slotTaken_answered hp he hx).trans ?_)
    rw [partyReply_heard (p := p) x r.round hpass rfl hj (by exact hw) hstop, entry_station he, joinedReply_clears _ _ hclears]
    rfl
  case noise =>
    refine hgoes _ _ _ ((slotTaken_answered hp he hk).trans ?_)
    rw [partyReply_heard (p := p) .noise r.round hpass rfl hj (by exact hw) nofun, entry_station he]
    rfl
  case stop =>
    have htaken := slotTaken_stop hp he hk hj hw
    refine ⟨fun h => ?goes, fun ho hmid hb => ?killed, fun ho ht hb hh => ?closed⟩
    case goes =>
      rw [if_neg fun ⟨ht, ho⟩ => h.elim ho (absurd ht)] at htaken
      exact hstill _ _ htaken
    case killed =>
      rw [if_pos ⟨.inr hmid, ho⟩, failPass_signals (s := s.slotStopped r p) (p := p.stopped r) rfl hmid hb] at htaken
      refine ⟨_, (p.stopped r).decided .failed (some .noParty), exec_slotEnd_on hon hr hlast (by rw [htaken]; exact hr) (by rw [htaken]; exact hs), ?_⟩
      rw [htaken]
      have hbrk : s.breakPresent = brk := s.breakPresent_eq
      have hcircuit : quiet.circuit = { (s.slotRead r).circuit with rounds := some next } := by
        simp only [quiet, heard, List.modify_id]
        rfl
      refine ⟨rfl, ?_, rfl, rfl, rfl, rfl, rfl, rfl, rfl⟩
      rw [hcircuit]
      exact congrArg (fun b => ({ (s.slotRead r).circuit with
        rounds := some ⟨r.slots, r.round, r.slot + 1, r.slotEnds + 250, false, [], b⟩ } : Circuit)) hbrk
    case closed =>
      have hstage : s.unsent p ∨ (s.midPicture p ∧ p.breakReason = true) := by
        obtain ⟨hc, -⟩ | hmid := ht
        · exact .inl (.inr (.inl hc))
        · exact .inr ⟨hmid, hb hmid⟩
      rw [if_pos ⟨ht, ho⟩, failPass_closes (s := s.slotStopped r p) (p := p.stopped r) rfl hstage] at htaken
      obtain ⟨hnow, hlink, hcloses⟩ := finish_closed (s := (s.slotStopped r p).failed (p.stopped r) .noParty)
        (p := (p.stopped r).decided .failed (some .noParty)) rfl rfl hh hs.1
      obtain ⟨-, -, hclosed⟩ := closePass_closes (s := (s.slotStopped r p).failed (p.stopped r) .noParty)
        (p := (p.stopped r).decided .failed (some .noParty)) (o := .failed) rfl rfl hh
      have hrounds : (s.slotTaken r).circuit.rounds = none := by
        obtain ⟨-, -, hrounds, -⟩ := hclosed
        rw [htaken]
        exact hrounds
      refine ⟨_, exec_slotEnd_stopped hon hr hlast hrounds, ?_⟩
      rw [htaken]
      exact ⟨hnow, hcloses, hlink.trans (congrArg Link.pumped (posted_append ..))⟩
  case receipt =>
    obtain ⟨x, hx, hnotes⟩ : ∃ x, k = .reply x ∧
        ((x = .received ∧ st = .received) ∨ (x = .repeatPass ∧ st = .repeatAsked)) := by
      obtain ⟨hk, hst⟩ | ⟨hk, hst⟩ := hk
      · exact ⟨_, hk, .inl ⟨rfl, hst⟩⟩
      · exact ⟨_, hk, .inr ⟨rfl, hst⟩⟩
    refine hstill s.link _ ((slotTaken_answered hp he hx).trans ?_)
    rw [partyReply_collecting x r.round p hj (by exact hg), entry_station he, gatheringReply_notes hnotes, updParty_heard hpass]
    rfl
  case late =>
    have htaken := slotTaken_answered hp he hk
    rw [partyReply_absent r.round p _ ha, if_pos ((windowClosed_iff (s.slotNoted r p).sender.circ p).mpr hl)] at htaken
    cases hreported : e.lateReported with
    | true =>
      rw [lateReady, if_pos hreported] at htaken
      exact hquiet htaken
    | false =>
      rw [lateReady, if_neg (ne_true_of_eq_false hreported), entry_station he, post_eq,
        updParty_heard (by exact hpass)] at htaken
      exact hstill _ _ htaken
  case ignored =>
    cases hk : k with
    | empty => exact hquiet (slotTaken_unanswered hp (.inl fun x hx => nomatch hk.symm.trans hx))
    | garbled => exact hquiet (slotTaken_unanswered hp (.inl fun x hx => nomatch hk.symm.trans hx))
    | reply x =>
      refine hquiet ((slotTaken_answered hp he hk).trans (partyReply_ignored x r.round p _ ?_ ?_ ?_))
      · rintro rfl ha
        refine Bool.eq_false_iff.mpr fun hclosed => ?_
        have hlate : lateTime := (windowClosed_iff ..).mp hclosed
        obtain hc | ⟨-, h⟩ | ⟨-, h | ⟨-, h⟩⟩ | ⟨-, h, -⟩ | ⟨h, -⟩ | ⟨-, h⟩ := hignored
        · simp [lateTime, gathering, hc] at hlate
        · exact h ha
        · exact h hk
        · exact h ha
        · exact nomatch ha.symm.trans h
        · exact nomatch ha.symm.trans h
        · exact h hlate
      · intro hj
        obtain hc | ⟨hc, -⟩ | ⟨h, -⟩ | ⟨hg, -, h1, h2⟩ | ⟨h, -⟩ | ⟨h, -⟩ := hignored
        · exact .inl hc
        · exact .inr (.inl hc)
        · exact absurd hj h
        · exact .inr (.inr ⟨hg, by rintro rfl; exact h1 hk, by rintro rfl; exact h2 hk⟩)
        · exact nomatch hj.symm.trans h
        · exact nomatch hj.symm.trans h
      · rintro hi rfl hm hc
        have hc : s.sender.circ = .answer := hc
        obtain h | ⟨h, -⟩ | ⟨-, h | ⟨h, -⟩⟩ | ⟨-, h, -⟩ | ⟨-, h | h | h⟩ | ⟨h, -⟩ := hignored
        · exact nomatch hc.symm.trans h
        · exact nomatch hc.symm.trans h
        · exact absurd hk h
        · exact absurd hi h
        · exact nomatch hi.symm.trans h
        · exact nomatch hm.symm.trans h
        · exact absurd hc h
        · exact h
        · exact nomatch hi.symm.trans h

end Sys2Proof.Machine
end

section
/-! PROOFS. The end of a round whose pass is closed while the Calibration Unit still wants the drum: the drive starts
a spin-up, and a spin-up is entered at a moment of its own (R36, log entry 3), so that the clock runs on past the end
of the slot. -/

namespace Sys2Proof.Machine

/-- The pass of job 7, its window closed, with station 1 joined. -/
def closingPass : Pass :=
  { job := 7
    number := 1
    stations := [1]
    lines := 500
    speed := .s60
    sent := 0
    fills := 0
    consecFills := 0
    lastCodes := none
    heldSent := 0
    windowOpen := false
    openRound := some 1
    closeRound := some 1
    callDone := true
    phaseCount := 0
    lastPhasing := false
    gatherCount := 0
    outcome := none
    reason := none
    secondary := none
    detached := false
    holdReason := false
    breakReason := false
    pausePending := false
    resume := none
    rephase := false
    holdDeadline := none
    breakDeadline := none
    line := none
    copy := Settings.default.guarded
    party := [⟨1, some ['A'], .joined, false, false, none⟩] }

/-- A state in ANSWER at the last slot of round 2, which ends at 250 ms: station 1 is about to be masked, both units
want the drum, which stands, and a spin-up was entered at 250 ms. -/
def closingState : State :=
  { State.reset with
    drive := { State.reset.drive with queueWant := some .s60, calWant := some .s60, spinUps := [250] }
    circuit :=
      { State.reset.circuit with
        roster := ⟨some ['A'], false, true, 0, 0⟩ :: List.replicate 15 Station.fresh
        rounds := some ⟨1, 2, 0, 250, false, [], false⟩ }
    sender := ⟨.answer, some closingPass, .silent, none⟩ }

/-- The moment a step leaves behind. -/
def momentAfter : Host.Outcome State Fault Refusal → Option Moment
  | .next t => some t.now
  | _ => none

theorem closingState_slotEnd : momentAfter (exec .slotEnd closingState) = some 251 := by
  decide +kernel

/-- Refutes O46: at the mark of `closingState` the mask drops the one joined station, the NO_PARTY test closes the
pass, and the queue's want is withdrawn. The Calibration Unit's want is then served by a spin-up, whose moment is
251 ms, the newest entry standing at 250 ms. So the step ends at 251 ms, where the statement has the state's moment be
that of the slot's end, 250 ms, whether or not the queue alone holds a want (`State.holdsJob`). -/
theorem not_roundEnds : ¬ Obligations.RoundEnds := by
  intro h
  obtain ⟨-, -, -, htested, -⟩ := h closingState ⟨1, 2, 0, 250, false, [], false⟩ closingPass rfl
    ⟨rfl, fun _ => rfl⟩ rfl rfl rfl (.inl fun x => nofun) rfl (by decide) (by decide)
  obtain ⟨u, hexec, hnow, -⟩ := htested (.inl ⟨rfl, rfl⟩)
  have hmoment := closingState_slotEnd
  rw [hexec] at hmoment
  have hlater : u.now = 251 := Option.some.inj hmoment
  exact absurd (hlater.symm.trans hnow) (by decide)

end Sys2Proof.Machine
end

section
/-! PROOFS. The cover-open event at the drive and the Calibration Unit (R39, R43, R47, R82, R85). -/

namespace Sys2Proof.Machine

variable {s t : State} {r : CalRun}

/-! ### Under an open cover the drive serves nothing -/

theorem serve_covered (h : s.coverOpen = true) : serve s = s := by
  have hlamp : lampOn s = s := if_neg (by simp [h])
  rw [serve, hlamp, serveDrum, if_pos (.inl h)]

theorem wantWithdrawn_covered (h : s.coverOpen = true) :
    wantWithdrawn s = if s.drive.wanted.isNone then beginIdle s else s := by
  unfold wantWithdrawn
  rw [serve_covered h]

/-- The motor, once off, stays as it is. -/
theorem motorOff_off (hd : stopMotor s.drive = s.drive) (hm : s.drive.drum.motorOn = false) : motorOff s = s := by
  rw [motorOff_eq, hd, hm, if_neg nofun, posted_nil]

theorem stopMotor_stopMotor (d : Drive) : stopMotor (stopMotor d) = stopMotor d := by
  unfold stopMotor
  by_cases h : d.drum = .parked
  · simp only [h, if_true]
  · simp only [if_neg h, reduceCtorEq, if_false]

theorem stopMotor_motorOn (d : Drive) : (stopMotor d).drum.motorOn = false := by
  unfold stopMotor
  dsimp only
  split_ifs <;> rfl

theorem lampOff_off (h : s.drive.lamp = .off) : lampOff s = s := if_pos h

/-! ### What the event leaves -/

/-- The drive after the cover-open event, a calibration run aborted or not (R39, R43, R47). -/
def Drive.covered (d : Drive) (aborts : Bool) : Drive :=
  let moving := d.carriage = .returning ∨ d.stepWaiting
  { d with
    drum := if d.drum = .parked then .parked else .coasting
    target := none
    lockedAt := none
    approach := none
    lockCount := 0
    lossCount := 0
    lockTimer := none
    marked := false
    pendingStart := false
    idleTimer := none
    carriage := if moving then .unhomed else d.carriage
    position := if moving then none else d.position
    stepWaiting := false
    calWant := if aborts then none else d.calWant
    returnTimer := if moving then none else d.returnTimer
    lamp := .off
    warmTimer := if d.lamp = .off then d.warmTimer else none }

/-- The lamp-off of the event makes a calibration STALE: a FRESH one, or one that an aborted run gives back (R82,
R85). -/
abbrev State.stales (s : State) : Prop :=
  s.drive.lamp ≠ .off ∧ (s.cal.run.map (·.savedState)).getD s.cal.state = .fresh

/-- The Calibration Unit after the event (R82, R85). -/
def State.calCovered (s : State) : Calib :=
  s.cal.run.elim { s.cal with state := if s.stales then .stale else s.cal.state } fun r =>
    { s.cal with
      state := if r.savedState = .fresh then .stale else r.savedState
      gain := r.savedStep
      request := false
      run := none }

/-- The report of a motor that is switched off (R26). -/
def State.coasts (s : State) : List Report := if s.drive.drum.motorOn then [.drum .coasting none] else []

/-- The report of a calibration made STALE by the lamp (R85). -/
def State.dark (s : State) : List Report := if s.stales then [.calStaleLamp] else []

/-- The end of the drive's part of the event, after motor, run and lamp (R37, R38, R43). -/
def State.halted (s : State) : State :=
  s.onDrive fun d => { haltCarriage d with pendingStart := false, idleTimer := none }

theorem driveCoverOpen_halted (s : State) : driveCoverOpen s = (lampOff (abortRun (motorOff s))).halted := rfl

/-- What the event clears at its end makes no difference before it. -/
theorem halted_lampOff (s : State) (pending : Bool) (idle : Option Moment) :
    (lampOff (s.onDrive fun d => { d with pendingStart := pending, idleTimer := idle })).halted =
      (lampOff s).halted := by
  rw [lampOff_eq, lampOff_eq]
  simp only [State.halted, State.onDrive, haltCarriage_eq]
  rfl

/-- With the motor off the end of idle hold is the lamp-off alone (R38). -/
theorem idleExpire_eq (hd : stopMotor s.drive = s.drive) (hm : s.drive.drum.motorOn = false) :
    idleExpire s = lampOff (s.onDrive fun d => { d with idleTimer := none }) := by
  unfold idleExpire
  refine motorOff_off ?_ ?_
  · rw [lampOff_eq]
    exact congrArg (fun d : Drive => ({ d with
      idleTimer := none
      lamp := .off
      warmTimer := if s.drive.lamp = .off then s.drive.warmTimer else none } : Drive)) hd
  · rw [lampOff_eq]
    exact hm

theorem lampOff_lampOff (s : State) : lampOff (lampOff s) = lampOff s :=
  lampOff_off (by rw [lampOff_eq])

/-- With the motor off an idle hold that begins ends with the event, its lamp-off that of the event. -/
theorem halted_beginIdle (hd : stopMotor s.drive = s.drive) (hm : s.drive.drum.motorOn = false) :
    (lampOff (beginIdle s)).halted = (lampOff s).halted := by
  let u := s.onDrive fun d => { d with pendingStart := false, idleTimer := some (s.now + 1000 * s.settings.idle) }
  have hbegun : beginIdle s = if s.settings.idle = 0 then idleExpire u else u := rfl
  have hu : stopMotor u.drive = u.drive := congrArg (fun d : Drive => ({ d with
    pendingStart := false, idleTimer := some (s.now + 1000 * s.settings.idle) } : Drive)) hd
  rw [hbegun]
  by_cases hi : s.settings.idle = 0
  · rw [if_pos hi, idleExpire_eq hu hm, lampOff_lampOff]
    exact halted_lampOff s false none
  · rw [if_neg hi]
    exact halted_lampOff s false _

/-- The want of an aborted run is withdrawn under an open cover: idle hold, where it begins, ends with the event. -/
theorem halted_withdrawCalWant (hc : s.coverOpen = true) (hd : stopMotor s.drive = s.drive)
    (hm : s.drive.drum.motorOn = false) :
    (lampOff (withdrawCalWant s)).halted = (lampOff (s.onDrive fun d => { d with calWant := none })).halted := by
  have hstopped : stopMotor { s.drive with calWant := none } = { s.drive with calWant := none } :=
    congrArg (fun d : Drive => ({ d with calWant := none } : Drive)) hd
  cases hw : s.drive.calWant with
  | none =>
    have hsame : ({ s.drive with calWant := none } : Drive) = s.drive := by rw [← hw]
    rw [withdrawCalWant, hw, State.onDrive, hsame]
    rfl
  | some w =>
    have hwithdrawn : withdrawCalWant s = wantWithdrawn (s.onDrive fun d => { d with calWant := none }) := by
      simp only [withdrawCalWant, hw, Option.isNone_some, Bool.false_eq_true, if_false]
    rw [hwithdrawn, wantWithdrawn_covered (by exact hc)]
    split
    · exact halted_beginIdle hstopped hm
    · rfl

theorem calCovered_idle (hrun : s.cal.run = none) :
    s.calCovered =
      { s.cal with state := if s.drive.lamp ≠ .off ∧ s.cal.state = .fresh then .stale else s.cal.state } := by
  simp only [State.calCovered, State.stales, hrun, Option.elim_none, Option.map_none, Option.getD_none]

theorem calCovered_aborted (hrun : s.cal.run = some r) :
    s.calCovered =
      { s.cal with
        state := if r.savedState = .fresh then .stale else r.savedState
        gain := r.savedStep
        request := false
        run := none } := by
  simp only [State.calCovered, hrun, Option.elim_some]

theorem dark_idle (hrun : s.cal.run = none) :
    s.dark = if s.drive.lamp ≠ .off ∧ s.cal.state = .fresh then [.calStaleLamp] else [] := by
  simp only [State.dark, State.stales, hrun, Option.map_none, Option.getD_none]

theorem dark_aborted (hrun : s.cal.run = some r) :
    s.dark = if s.drive.lamp ≠ .off ∧ r.savedState = .fresh then [.calStaleLamp] else [] := by
  simp only [State.dark, State.stales, hrun, Option.map_some, Option.getD_some]

/-- The lamp-off and the end of the event, the motor being off. -/
theorem halted_lampOff_eq (s : State) :
    (lampOff s).halted =
      { s with
        link := s.link.posted (if s.drive.lamp ≠ .off ∧ s.cal.state = .fresh then [.calStaleLamp] else [])
        drive :=
          { haltCarriage s.drive with
            pendingStart := false
            idleTimer := none
            lamp := .off
            warmTimer := if s.drive.lamp = .off then s.drive.warmTimer else none }
        cal :=
          { s.cal with
            state := if s.drive.lamp ≠ .off ∧ s.cal.state = .fresh then .stale else s.cal.state } } := by
  rw [lampOff_eq]
  simp only [State.halted, State.onDrive, haltCarriage_eq]

theorem covered_eq (d : Drive) (aborts : Bool) :
    d.covered aborts =
      { haltCarriage { stopMotor d with calWant := if aborts then none else d.calWant } with
        pendingStart := false
        idleTimer := none
        lamp := .off
        warmTimer := if d.lamp = .off then d.warmTimer else none } := by
  rw [haltCarriage_eq]
  rfl

/-- The cover-open event at the drive, no calibration run in progress (R39, R43, R47). -/
theorem driveCoverOpen_idle (hrun : s.cal.run = none) :
    driveCoverOpen s =
      { s with
        link := s.link.posted (s.coasts ++ s.dark)
        drive := s.drive.covered false
        cal := s.calCovered } := by
  rw [driveCoverOpen_halted, motorOff_eq, abortRun_none (by exact hrun), halted_lampOff_eq, covered_eq, dark_idle hrun,
    calCovered_idle hrun, posted_append]
  rfl

/-- The cover-open event at the drive with a calibration run in progress and no job RELEASED any more (R82). -/
theorem driveCoverOpen_aborts (hc : s.coverOpen = true) (hr : s.releasedJob = none) (hrun : s.cal.run = some r) :
    driveCoverOpen s =
      { s with
        link := s.link.posted (s.coasts ++ [.calAbort] ++ s.dark)
        drive := s.drive.covered true
        cal := s.calCovered } := by
  have hunreleased : untried s.queue.jobs = s.queue.jobs := untried_unreleased hr
  let back : CalState := if r.savedState = .fresh ∧ s.drive.lamp = .off then .stale else r.savedState
  have hfresh : s.drive.lamp ≠ .off ∧ back = .fresh ↔ s.drive.lamp ≠ .off ∧ r.savedState = .fresh :=
    and_congr_right fun hl => by rw [show back = r.savedState from if_neg fun h => hl h.2]
  have hdark : s.dark = if s.drive.lamp ≠ .off ∧ back = .fresh then [.calStaleLamp] else [] :=
    (dark_aborted hrun).trans (if_congr hfresh.symm rfl rfl)
  have hstate : (if r.savedState = .fresh then CalState.stale else r.savedState) =
      if s.drive.lamp ≠ .off ∧ back = .fresh then .stale else back := by
    by_cases hl : s.drive.lamp = .off <;> by_cases hf : r.savedState = .fresh <;> simp [back, hl, hf]
  rw [driveCoverOpen_halted, motorOff_eq, abortRun_eq (by exact hrun),
    halted_withdrawCalWant (by exact hc) (by exact stopMotor_stopMotor _) (by exact stopMotor_motorOn _),
    halted_lampOff_eq, covered_eq, hdark, calCovered_aborted hrun, hstate]
  simp only [posted_append, State.onDrive, hunreleased]
  rfl

end Sys2Proof.Machine
end

section
/-! PROOFS. The cover closed and the cover opened (R7, R8, R10, R11, R39). -/

namespace Sys2Proof.Machine

variable {s t u : State} {j : Job} {p : Pass} {r : CalRun}

/-! ### The cover closed (R7, R8) -/

theorem serve_unwanted (h : s.drive.wanted = none) : serve s = s := by
  rw [serve, lampOn, if_neg (by simp [h]), serveDrum_unwanted h]

/-- The state with the head job MOUNTED, before its binding check (R7, R8). -/
def State.loaded (s : State) (n : Nat) : State :=
  { s with
    link := s.link.posted [.load n]
    queue :=
      { s.queue with
        load := .bound
        jobs := s.queue.jobs.map fun k => if k.number = n then { k with state := .mounted } else k } }

theorem coverClose_nobody (hc : s.queue.load = .coverOpen) (hh : s.headJob = none) :
    coverClose s =
      serve { s with link := s.link.posted [.loadUnbound], queue := { s.queue with load := .unbound } } := by
  have hopen : s.coverOpen = true := by simp [State.coverOpen, hc]
  simp only [coverClose, hopen, if_true, bindHead, hh, post_eq]
  rfl

theorem coverClose_binds (hc : s.queue.load = .coverOpen) (hh : s.headJob = some j) :
    coverClose s = serve (bindingCheck j (s.loaded j.number)) := by
  have hopen : s.coverOpen = true := by simp [State.coverOpen, hc]
  simp only [coverClose, hopen, if_true, bindHead, hh, bindJob, post_eq]
  rfl

theorem loaded_releasedJob (hr : s.releasedJob = none) (n : Nat) : (s.loaded n).releasedJob = none := by
  refine releasedJob_map (s := s) rfl hr fun k hk => ?_
  split
  · nofun
  · exact hk

theorem loaded_findJob (hj : s.findJob j.number = some j) :
    (s.loaded j.number).findJob j.number = some { j with state := .mounted } := by
  rw [findJob_map (s := s) (f := fun k => if k.number = j.number then { k with state := .mounted } else k) rfl
    (fun k => by split <;> rfl), hj, Option.map_some, if_pos rfl]

/-- A want that lights the lamp and starts the drum, which is at rest with no start of the last 15 minutes (R34 to R36,
R45). -/
theorem serve_starts {v : Speed} (hw : s.drive.wanted = some v) (hload : s.queue.load ≠ .coverOpen)
    (hd : s.drive.atRest) (hl : s.drive.lamp = .off) (hp : s.drive.pendingStart = false)
    (hf : s.drive.faultHold = false) (hcal : s.cal.state ≠ .running)
    (hs : youngStarts s.now s.drive.spinUps = []) :
    serve s =
      { s with
        link := s.link.posted [.drum .spinningUp (some v)]
        drive :=
          { s.drive.spinningUp v [] s.now with lamp := .warming, warmTimer := some (s.now + 60000) } } := by
  let u : State := { s with drive := { s.drive with lamp := .warming, warmTimer := some (s.now + 60000) } }
  have hlit : lampOn s = u := by
    rw [lampOn_wanted (by rw [hw]; rfl), State.lampServed, if_pos ⟨hl, hload⟩, if_pos ⟨hl, hload⟩]
  have hyoung : youngStarts u.now u.drive.spinUps = [] := hs
  rw [serve, hlit, serveDrum_atRest (s := u) hd hload hf hp hcal hw,
    spinUp_started (by rw [hyoung]; decide) (by rw [hyoung]; nofun), hyoung]
  rfl

/-- The state of a job released at its binding, before its wants are served (R15, R17). -/
def State.wanting (s : State) (j : Job) (why : ReleaseCause) : State :=
  { s with
    link := s.link.posted [.release j.number why]
    queue :=
      { s.queue with
        missing := []
        jobs := s.queue.jobs.map fun k =>
          if k.number = j.number then { k with state := .released, pendingTrigger := false, calTried := false } else k }
    drive := { s.drive with queueWant := some j.speed, idleTimer := none } }

theorem release_eq (why : ReleaseCause) (j : Job) (s : State) : release why j s = serve (s.wanting j why) := by
  unfold release raiseQueueWant
  rw [post_eq]
  rfl

theorem wanting_releasedJob (hr : s.releasedJob = none) (hj : s.findJob j.number = some j) (why : ReleaseCause) :
    ((s.loaded j.number).wanting j why).releasedJob =
      some { j with state := .released, pendingTrigger := false, calTried := false } :=
  releasedJob_updJob (s := s.loaded j.number) (j := { j with state := .mounted }) j.number
    (g := fun k => { k with state := .released, pendingTrigger := false, calTried := false }) (fun _ => rfl)
    (loaded_releasedJob hr _) (loaded_findJob hj)

theorem loaded_jobs (s : State) (n : Nat) :
    ((s.loaded n).queue.jobs.map fun k =>
      if k.number = n then { k with state := .released, pendingTrigger := false, calTried := false } else k) =
      s.queue.jobs.map fun k =>
        if k.number = n then { k with state := .released, pendingTrigger := false, calTried := false } else k := by
  refine (List.map_map ..).trans (List.map_congr_left fun k _ => ?_)
  by_cases hk : k.number = n
  · simp [hk]
  · simp [hk]

/-! ### The cover opened: the job that was mounted (R10) -/

/-- The state in which the mounted job takes the cover-open event. -/
def State.opened (s : State) : State :=
  { s with link := s.link.posted [.loadOpen], queue := { s.queue with load := .coverOpen } }

theorem coverOpens_nobody (hc : s.queue.load ≠ .coverOpen) (hm : s.mountedJob = none) :
    coverOpens s = driveCoverOpen s.opened := by
  have hclosed : s.coverOpen = false := coverOpen_eq_false.mpr hc
  simp only [coverOpens, hclosed, Bool.false_eq_true, if_false, hm, post_eq]
  rfl

theorem coverOpens_unbinds (hc : s.queue.load ≠ .coverOpen) (hm : s.mountedJob = some j) :
    coverOpens s = driveCoverOpen (unbind j s.opened) := by
  have hclosed : s.coverOpen = false := coverOpen_eq_false.mpr hc
  simp only [coverOpens, hclosed, Bool.false_eq_true, if_false, hm, post_eq]
  rfl

/-- The cover-open event at the drive, an open cover given and no job RELEASED. -/
theorem driveCoverOpen_eq (hc : s.coverOpen = true) (hr : s.releasedJob = none) :
    driveCoverOpen s =
      { s with
        link := s.link.posted (s.coasts ++ (if s.cal.run.isSome then [.calAbort] else []) ++ s.dark)
        drive := s.drive.covered s.cal.run.isSome
        cal := s.calCovered } := by
  cases hrun : s.cal.run with
  | none =>
    rw [driveCoverOpen_idle hrun, Option.isSome_none, if_neg nofun, List.append_nil]
  | some r =>
    rw [driveCoverOpen_aborts hc hr hrun, Option.isSome_some, if_pos rfl]

/-- With an IDLE of 0 the lamp-off and the motor-off of the withdrawn want stand before the event at the drive (log
entry 49). -/
theorem driveCoverOpen_idleExpire (hrun : s.cal.run = none) :
    driveCoverOpen (idleExpire s) =
      { s with
        link := s.link.posted (s.dark ++ s.coasts)
        drive := s.drive.covered false
        cal := s.calCovered } := by
  let u := lampOff (s.onDrive fun d => { d with idleTimer := none })
  have hexpired : idleExpire s =
      { u with
        drive := stopMotor u.drive
        link := u.link.posted (if u.drive.drum.motorOn then [.drum .coasting none] else []) } := motorOff_eq u
  have hu : u =
      { s with
        drive :=
          { s.drive with
            idleTimer := none
            lamp := .off
            warmTimer := if s.drive.lamp = .off then s.drive.warmTimer else none }
        link := s.link.posted s.dark
        cal := s.calCovered } := by
    rw [dark_idle hrun, calCovered_idle hrun]
    exact lampOff_eq _
  have hoff : u.drive.lamp = .off := by rw [hu]
  have hstopped : driveCoverOpen (idleExpire s) = (idleExpire s).halted := by
    have hmotor : motorOff (idleExpire s) = idleExpire s := by
      rw [hexpired]
      exact motorOff_off (stopMotor_stopMotor _) (stopMotor_motorOn _)
    have hnorun : (idleExpire s).cal.run = none := by
      rw [hexpired, hu, calCovered_idle hrun]
      exact hrun
    have hlamp : (idleExpire s).drive.lamp = .off := by
      rw [hexpired]
      exact hoff
    rw [driveCoverOpen_halted, hmotor, abortRun_none hnorun, lampOff_off hlamp]
  rw [hstopped, hexpired, hu, covered_eq]
  simp only [State.halted, State.onDrive, haltCarriage_eq, posted_append]
  rfl

/-! ### The cover opened on a picture being sent (R11) -/

theorem withdrawQueueWant_covered (hc : s.coverOpen = true) :
    ∃ l d c, withdrawQueueWant s = { s with link := l, drive := d, cal := { s.cal with state := c } } := by
  unfold withdrawQueueWant
  split
  · exact ⟨s.link, s.drive, s.cal.state, rfl⟩
  · rw [wantWithdrawn_covered (by exact hc)]
    split
    · unfold beginIdle
      dsimp only
      split
      · rw [idleExpire, motorOff_eq, lampOff_eq]
        exact ⟨_, _, _, rfl⟩
      · exact ⟨s.link, _, s.cal.state, rfl⟩
    · exact ⟨s.link, _, s.cal.state, rfl⟩

theorem leaveQueue_covered (hc : s.coverOpen = true) (hj : j.state ≠ .queued) :
    ∃ l d c rec, leaveQueue j s =
      { s with
        link := l
        drive := d
        cal := { s.cal with state := c }
        receipts := rec
        queue := ⟨s.jobsWithout j.number, s.queue.load, []⟩ } := by
  obtain ⟨l, d, c, hwithdrawn⟩ := withdrawQueueWant_covered
    (s := { s with queue := ⟨s.jobsWithout j.number, s.queue.load, []⟩ }) hc
  have hwithdrawn : withdrawQueueWant ((s.onQueue fun q => { q with jobs := q.jobs.filter fun k => k.number != j.number }).onQueue
      fun q => { q with missing := [] }) = _ := hwithdrawn
  unfold leaveQueue
  dsimp only
  rw [if_neg hj, hwithdrawn, if_pos (by exact hc), closeRecord_frame]
  exact ⟨_, _, _, _, rfl⟩

/-- While a pass is being killed with the drum stopped, the end of a step leaves the jobs as they are. -/
theorem finish_killing (hd : s.drive.drum ≠ .locked) (hc : s.sender.circ = .killing) :
    ∃ l m rec, finish s = { s with link := l, queue := { s.queue with missing := m }, receipts := rec } := by
  have hsettle : ∃ l m, settle s = { s with link := l, queue := { s.queue with missing := m } } := by
    cases hj : s.releasedJob with
    | none => exact ⟨s.link, s.queue.missing, settle_none hj⟩
    | some j =>
      have hne : s.missingCauses j ≠ [] := by simp [missingCauses_eq, hc]
      rw [settle_waiting hj hd rfl hne]
      split
      · exact ⟨s.link, s.queue.missing, rfl⟩
      · exact ⟨_, _, rfl⟩
  obtain ⟨l, m, hsettle⟩ := hsettle
  rw [finish, conclude, hsettle, pump_eq, kick_frame]
  exact ⟨_, _, _, rfl⟩

end Sys2Proof.Machine
end

section
/-! PROOFS. COVER_CLOSE and COVER_OPEN by the state of the mounted job. -/

namespace Sys2Proof.Machine

variable {s t : State} {j : Job} {p : Pass}

theorem kick_receipts (l : Link) (q : Queue) (d : Drive) (c : Calib) :
    (kick { s with link := l, queue := q, drive := d, cal := c }).receipts = (kick s).receipts := by
  by_cases hready : s.receipts.printer = .ready ∧ s.receipts.slips ≠ []
  · obtain ⟨hprinter, hslips⟩ := hready
    obtain ⟨x, rest, hslips⟩ := List.exists_cons_of_ne_nil hslips
    rw [kick_ready (by exact hprinter) (by exact hslips), kick_ready hprinter hslips]
    rfl
  · have hnone : s.receipts.printer = .ready → s.receipts.slips = [] := fun hprinter =>
      not_not.mp fun hslips => hready ⟨hprinter, hslips⟩
    rw [kick_none (by exact hnone), kick_none hnone]

/-! ### COVER_CLOSE -/

theorem exec_coverClose (hon : s.powered = true) : exec .coverClose s = .next (finish (coverClose s)) :=
  exec_finish rfl hon

/-- The head job bound and released by its pending trigger: the drum and the lamp get ready, and the job waits. -/
theorem exec_coverClose_releases (hon : s.powered = true) (hs : s.resting) (hload : s.queue.load = .coverOpen)
    (hh : s.headJob = some j) (hj : s.findJob j.number = some j) (hpending : j.pendingTrigger = true)
    (hrelease : j.release = none) (hd : s.drive.atRest) (hl : s.drive.lamp = .off)
    (hp : s.drive.pendingStart = false) (hf : s.drive.faultHold = false) (hcal : s.cal.state = .stale)
    (hfree : s.sender.circ = .free) (hlog : s.receipts.log.length < 16)
    (hyoung : youngStarts s.now s.drive.spinUps = []) :
    exec .coverClose s =
      .next
        { s with
          link :=
            (s.link.posted
              [.load j.number, .release j.number .pending, .drum .spinningUp (some j.speed),
                .wait j.number [.drum, .lamp, .cal]]).pumped
          queue :=
            { load := .bound
              missing := [.drum, .lamp, .cal]
              jobs := s.queue.jobs.map fun k =>
                if k.number = j.number then { k with state := .released, pendingTrigger := false, calTried := false }
                else k }
          drive :=
            { s.drive.spinningUp j.speed [] s.now with
              queueWant := some j.speed
              idleTimer := none
              lamp := .warming
              warmTimer := some (s.now + 60000) } } := by
  let v := (s.loaded j.number).wanting j .pending
  let w : State :=
    { v with
      link := v.link.posted [.drum .spinningUp (some j.speed)]
      drive := { v.drive.spinningUp j.speed [] s.now with lamp := .warming, warmTimer := some (s.now + 60000) } }
  have hserved : serve v = w :=
    serve_starts (s := v) rfl (by exact nofun) hd hl hp hf (by exact hcal ▸ nofun) hyoung
  have hclose : coverClose s = w := by
    rw [coverClose_binds hload hh, bindingCheck_released (.inr ⟨rfl, hpending, hrelease⟩), release_eq, hserved]
    exact serve_kept (by exact nofun) (.inl rfl)
  have hreleased : w.releasedJob = some { j with state := .released, pendingTrigger := false, calTried := false } :=
    wanting_releasedJob hs.1 hj .pending
  have hcauses : w.missingCauses { j with state := .released, pendingTrigger := false, calTried := false } =
      [.drum, .lamp, .cal] := by
    have hlocked : w.drive.drum ≠ .locked := nofun
    have hpendingStart : w.drive.pendingStart = false := hp
    have hlamp : w.drive.lamp ≠ .ready := nofun
    have hstale : w.cal.state ≠ .fresh := by rw [show w.cal.state = .stale from hcal]; nofun
    have hcirc : w.sender.circ = .free := hfree
    have hroom : w.receipts.log.length < 16 := hlog
    simp [missingCauses_eq, hlocked, hpendingStart, hlamp, hstale, hcirc, hroom]
  have hwaits := settle_waiting hreleased (by exact nofun) hcauses nofun
  rw [if_neg (by exact nofun)] at hwaits
  rw [exec_coverClose hon, hclose, finish, conclude, hwaits, kick_none (by exact hs.2), pump_eq]
  simp only [w, v, State.wanting, loaded_jobs]
  simp only [State.loaded, posted_append, List.cons_append, List.nil_append]
  rfl

/-! ### COVER_OPEN -/

theorem exec_coverOpen (hon : s.powered = true) : exec .coverOpen s = .next (finish (coverOpens s)) :=
  exec_finish rfl hon

/-- What the event posts where no want is withdrawn by it (R10, R26, R82, R85). -/
def State.openReports (s : State) : List Report :=
  [.loadOpen] ++ s.coasts ++ (if s.cal.run.isSome then [.calAbort] else []) ++ s.dark

/-- The event at a queue that holds no want of its own: the job that was mounted, if any, is back in the queue or
gone. -/
theorem driveCoverOpen_opened {q : Queue} {rec : Receipts} (hl : q.load = .coverOpen)
    (hr : q.jobs.find? (fun k => k.state == .released) = none) :
    driveCoverOpen { s.opened with queue := q, receipts := rec } =
      { s with
        link := s.link.posted s.openReports
        queue := q
        receipts := rec
        drive := s.drive.covered s.cal.run.isSome
        cal := s.calCovered } := by
  have hopen : ({ s.opened with queue := q, receipts := rec } : State).coverOpen = true := by
    simp [State.coverOpen, hl]
  rw [driveCoverOpen_eq hopen hr]
  simp only [State.opened, posted_append, State.openReports]
  simp only [List.append_assoc]
  rfl

/-- A RELEASED job's want withdrawn at the event (R10, R38): with an IDLE of 0 the lamp-off stands first (log entry
49). -/
theorem driveCoverOpen_withdrawn {q : Queue} (hl : q.load = .coverOpen)
    (hr : q.jobs.find? (fun k => k.state == .released) = none) (hw : s.drive.queueWant.isSome)
    (hcal : s.cal.run.isSome → s.drive.calWant.isSome) :
    driveCoverOpen (withdrawQueueWant { s.opened with queue := q }) =
      { s with
        link :=
          s.link.posted
            (if s.drive.calWant = none ∧ s.settings.idle = 0 then [.loadOpen] ++ s.dark ++ s.coasts else s.openReports)
        queue := q
        drive := { s.drive.covered s.cal.run.isSome with queueWant := none, faultHold := false }
        cal := s.calCovered } := by
  let u : State :=
    { s.opened with queue := q, drive := { s.drive with queueWant := none, faultHold := false } }
  have hopen : u.coverOpen = true := by simp [u, State.coverOpen, hl]
  have hwithdrawn : withdrawQueueWant { s.opened with queue := q } = wantWithdrawn u := by
    obtain ⟨v, hv⟩ := Option.isSome_iff_exists.mp hw
    simp only [withdrawQueueWant, show s.opened.drive.queueWant = some v from hv, Option.isNone_some,
      Bool.false_eq_true, if_false]
    rfl
  rw [hwithdrawn, wantWithdrawn_covered hopen]
  by_cases hc : s.drive.calWant = none
  · have hrun : s.cal.run = none := by
      rw [← Option.not_isSome_iff_eq_none]
      intro h
      have := hcal h
      rw [hc] at this
      cases this
    have hunwanted : u.drive.wanted.isNone = true := by simp [u, Drive.wanted, hc]
    rw [if_pos hunwanted, beginIdle]
    dsimp only
    by_cases hi : s.settings.idle = 0
    · rw [if_pos (by exact hi), if_pos ⟨hc, hi⟩, driveCoverOpen_idleExpire (by exact hrun), hrun]
      simp only [u, State.onDrive, State.opened, posted_append, List.append_assoc]
      rfl
    · rw [if_neg (by exact hi), if_neg fun h => hi h.2, driveCoverOpen_idle (by exact hrun), State.openReports, hrun]
      simp only [u, State.onDrive, State.opened, posted_append, List.append_assoc]
      rfl
  · have hwanted : ¬ u.drive.wanted.isNone = true := by simp [u, Drive.wanted, hc]
    rw [if_neg hwanted, if_neg fun h => hc h.1, driveCoverOpen_eq hopen hr, State.openReports]
    simp only [u, State.opened, posted_append, List.append_assoc]
    rfl

end Sys2Proof.Machine
end

section
/-! PROOFS. CoverMoved: the cover's two events by the load state and the mounted job. -/

namespace Sys2Proof.Machine

variable {s t u : State} {j : Job} {p : Pass}

/-! ### COVER_CLOSE that releases no job -/

theorem exec_coverClose_nobody (hon : s.powered = true) (hs : s.resting) (hload : s.queue.load = .coverOpen)
    (hw : s.drive.wanted = none) (hh : s.headJob = none) :
    exec .coverClose s =
      .next { s with link := (s.link.posted [.loadUnbound]).pumped, queue := { s.queue with load := .unbound } } := by
  rw [exec_coverClose hon, coverClose_nobody hload hh, serve_unwanted (by exact hw),
    finish_resting (by exact hs)]

theorem exec_coverClose_binds (hon : s.powered = true) (hs : s.resting) (hload : s.queue.load = .coverOpen)
    (hw : s.drive.wanted = none) (hh : s.headJob = some j) (ht : s.timeReached j = false)
    (hp : j.pendingTrigger = false ∨ j.release.isSome) :
    exec .coverClose s =
      .next { s.loaded j.number with link := (s.link.posted [.load j.number]).pumped } := by
  rw [exec_coverClose hon, coverClose_binds hload hh, bindingCheck_mounted (by exact ht) hp,
    serve_unwanted (by exact hw), finish_resting ⟨loaded_releasedJob hs.1 _, hs.2⟩]
  rfl

/-! ### COVER_OPEN by the mounted job -/

/-- COVER_OPEN where the mounted job's leaving writes the queue and the receipts alone. -/
theorem exec_coverOpen_unbinds {q : Queue} {rec : Receipts} (hon : s.powered = true)
    (hc : s.queue.load ≠ .coverOpen) (hm : s.mountedJob = some j)
    (hu : unbind j s.opened = { s.opened with queue := q, receipts := rec }) (hl : q.load = .coverOpen)
    (hr : q.jobs.find? (fun k => k.state == .released) = none) (hk : rec.printer = .ready → rec.slips = []) :
    exec .coverOpen s =
      .next
        { s with
          link := (s.link.posted s.openReports).pumped
          queue := q
          receipts := rec
          drive := s.drive.covered s.cal.run.isSome
          cal := s.calCovered } := by
  rw [exec_coverOpen hon, coverOpens_unbinds hc hm, hu, driveCoverOpen_opened hl hr,
    finish_resting ⟨by exact hr, by exact hk⟩]

theorem exec_coverOpen_nobody (hon : s.powered = true) (hc : s.queue.load ≠ .coverOpen)
    (hq : ∀ k ∈ s.queue.jobs, k.state = .queued) :
    exec .coverOpen s =
      .next
        { s with
          link := (s.link.posted s.openReports).pumped
          queue := { s.queue with load := .coverOpen }
          receipts := (kick s).receipts
          drive := s.drive.covered s.cal.run.isSome
          cal := s.calCovered } := by
  have hr : s.queue.jobs.find? (fun k => k.state == .released) = none :=
    List.find?_eq_none.mpr fun k hk => by simp [hq k hk]
  have hopened := driveCoverOpen_opened (s := s) (q := { s.queue with load := .coverOpen }) (rec := s.receipts) rfl hr
  rw [exec_coverOpen hon, coverOpens_nobody hc (mountedJob_none hq)]
  refine (congrArg (fun x => Host.Outcome.next (finish x)) hopened).trans ?_
  rw [finish_unreleased (by exact hr), kick_receipts]

/-- A MOUNTED job is back in the queue (R10). -/
theorem unbind_mounted (h : j.state = .mounted) (s : State) :
    unbind j s = updJob j.number (fun k => { k with state := .queued }) s := by
  simp only [unbind, h]

/-- A RELEASED job is back in the queue with its trigger, its want withdrawn (R10, R38). -/
theorem unbind_released (h : j.state = .released) (s : State) :
    unbind j s =
      withdrawQueueWant
        { s with
          queue :=
            { s.queue with
              missing := []
              jobs := s.queue.jobs.map fun k =>
                if k.number = j.number then { k with state := .queued, pendingTrigger := true } else k } } := by
  simp only [unbind, h]
  rfl

/-- A FINISHED job leaves the queue and its record closes (R10, R24, R157). -/
theorem unbind_finished (h : j.state = .finished) (hc : s.coverOpen = true) (hw : s.drive.queueWant = none) :
    unbind j s =
      { s with
        queue := ⟨s.jobsWithout j.number, s.queue.load, []⟩
        receipts := { s.receipts with log := recordsClosed j.number s.receipts.log } } := by
  have hstays := withdrawQueueWant_none
    (s := { s with queue := ⟨s.jobsWithout j.number, s.queue.load, []⟩ }) hw
  have hstays : withdrawQueueWant
      ((s.onQueue fun q => { q with jobs := q.jobs.filter fun k => k.number != j.number }).onQueue
        fun q => { q with missing := [] }) = _ := hstays
  simp only [unbind, h, leaveQueue, reduceCtorEq, if_false]
  rw [hstays, if_pos (by exact hc), closeRecord_gone (findJob_filtered (jobs := s.queue.jobs) rfl)]

theorem exec_coverOpen_released (hon : s.powered = true) (hc : s.queue.load ≠ .coverOpen)
    (hk : s.receipts.printer = .ready → s.receipts.slips = []) (hm : s.mountedJob = some j)
    (hj : j.state = .released) (honly : ∀ k ∈ s.queue.jobs, k.state = .released → k.number = j.number)
    (hw : s.drive.queueWant.isSome) (hcal : s.cal.run.isSome → s.drive.calWant.isSome) :
    exec .coverOpen s =
      .next
        { s with
          link :=
            (s.link.posted
              (if s.drive.calWant = none ∧ s.settings.idle = 0 then [.loadOpen] ++ s.dark ++ s.coasts
              else s.openReports)).pumped
          queue :=
            { load := .coverOpen
              missing := []
              jobs := s.queue.jobs.map fun k =>
                if k.number = j.number then { k with state := .queued, pendingTrigger := true } else k }
          drive := { s.drive.covered s.cal.run.isSome with queueWant := none, faultHold := false }
          cal := s.calCovered } := by
  let q : Queue :=
    { load := .coverOpen
      missing := []
      jobs := s.queue.jobs.map fun k =>
        if k.number = j.number then { k with state := .queued, pendingTrigger := true } else k }
  have hr : q.jobs.find? (fun k => k.state == .released) = none := by
    refine List.find?_eq_none.mpr fun k hk => ?_
    obtain ⟨x, hx, rfl⟩ := List.mem_map.mp hk
    by_cases hn : x.number = j.number
    · simp [hn]
    · simpa [hn] using fun h => hn (honly x hx h)
  have hopened := driveCoverOpen_withdrawn (s := s) (q := q) rfl hr hw hcal
  rw [exec_coverOpen hon, coverOpens_unbinds hc hm, unbind_released hj]
  refine (congrArg (fun x => Host.Outcome.next (finish x)) hopened).trans ?_
  rw [finish_resting ⟨by exact hr, by exact hk⟩]

/-- A picture being sent is killed with reason COVER, its job gone and its pass detached (R11, R72, R146). -/
theorem exec_coverOpen_active (hon : s.powered = true) (hc : s.queue.load ≠ .coverOpen) (hrun : s.cal.run = none)
    (hm : s.mountedJob = some j) (hj : j.state = .active) (hp : s.sender.pass = some p)
    (hcirc : s.sender.circ = .picture) (hb : p.breakReason = false) :
    ∃ t, exec .coverOpen s = .next t ∧ t.queue.jobs = s.jobsWithout j.number ∧ t.queue.load = .coverOpen ∧
      t.sender =
        ⟨.killing, some ({ p with detached := true }.decided .failed (some .cover)), .kill s.now,
          some (s.now + Config.signalTime)⟩ ∧
      t.scan = s.scan.over.over := by
  obtain ⟨l, d, c, rec, hleft⟩ := leaveQueue_covered (s := s.opened) (j := j) rfl (by rw [hj]; nofun)
  let v : State :=
    { s.opened with
      link := l
      drive := d
      cal := { s.cal with state := c }
      receipts := rec
      queue := ⟨s.jobsWithout j.number, .coverOpen, []⟩
      scan := s.scan.over
      sender := { s.sender with pass := some { p with detached := true } } }
  have hscanEnd : scanEnd ((leaveQueue j s.opened).onPass fun x => { x with detached := true }) = v := by
    rw [hleft, onPass_eq (by exact hp), scanEnd_eq]
    rfl
  have hunbind : unbind j s.opened = v.failing { p with detached := true } .cover := by
    simp only [unbind, hj, coverOnActive, hscanEnd]
    exact failPass_signals (s := v) rfl (.inr (.inl hcirc)) hb
  obtain ⟨l', m, rec', hfinish⟩ := finish_killing
    (s := driveCoverOpen (v.failing { p with detached := true } .cover))
    (by rw [driveCoverOpen_idle (by exact hrun), Drive.covered]; dsimp only; split <;> exact nofun)
    (by rw [driveCoverOpen_idle (by exact hrun)]; rfl)
  refine ⟨finish (driveCoverOpen (v.failing { p with detached := true } .cover)), ?_, ?_⟩
  · rw [exec_coverOpen hon, coverOpens_unbinds hc hm, hunbind]
  · rw [hfinish, driveCoverOpen_idle (by exact hrun)]
    exact ⟨rfl, rfl, rfl, rfl⟩

/-- Settles O30: the cover closed is the binding of the head job with its binding check (R7, R8); the cover opened is
what becomes of the mounted job (R10, R11), followed by the event at the drive (R39). -/
theorem coverMoved : Obligations.CoverMoved := by
  unfold Obligations.CoverMoved
  refine ⟨fun s hon hs hload hqw hcw => ?_, fun s hon hload => ?_⟩
  · have hunwanted : s.drive.wanted = none := by simp [Drive.wanted, hqw, hcw]
    refine ⟨?_, ?_, ?_⟩
    · exact exec_coverClose_nobody hon hs hload hunwanted
    · exact fun j => exec_coverClose_binds hon hs hload hunwanted
    · intro j hh hj hpending hrelease _ hd hl hp hf hcal hfree hlog hyoung
      exact exec_coverClose_releases hon hs hload hh hj hpending hrelease hd hl hp hf hcal hfree hlog hyoung
  · intro moving drive stales cal coasts dark reports
    have hdrive : s.drive.covered s.cal.run.isSome = drive := rfl
    have hcal : s.calCovered = cal := by
      cases hrun : s.cal.run with
      | none => simp [calCovered_idle hrun, cal, stales, hrun]
      | some r => simp [calCovered_aborted hrun, cal, hrun]
    have hreports : s.openReports = reports := rfl
    rw [← hdrive, ← hcal, ← hreports]
    refine ⟨?_, ?_, ?_, ?_, ?_⟩
    · exact exec_coverOpen_nobody hon hload
    · intro j hs hm hj
      have hr : (s.queue.jobs.map fun k => if k.number = j.number then { k with state := .queued } else k).find?
          (fun k => k.state == .released) = none :=
        releasedJob_map (s := s) (t := updJob j.number (fun k => { k with state := .queued }) s) rfl hs.1 fun k hk => by
          split
          · exact nofun
          · exact hk
      exact exec_coverOpen_unbinds (rec := s.receipts) hon hload hm (unbind_mounted hj _) rfl hr hs.2
    · intro j hk hm hj honly hw hcalWant
      exact exec_coverOpen_released hon hload hk hm hj honly hw hcalWant
    · intro j hs hm hj hw
      have hr : (s.queue.jobs.filter fun k => k.number != j.number).find? (fun k => k.state == .released) = none := by
        refine List.find?_eq_none.mpr fun k hk => ?_
        simpa using not_released_of_none hs.1 k (List.mem_of_mem_filter hk)
      exact exec_coverOpen_unbinds hon hload hm (unbind_finished (s := s.opened) hj rfl hw) rfl hr hs.2
    · intro j p hrun hm hj hp hcirc hb
      obtain ⟨t, hexec, hjobs, hopen, hsender, hscan⟩ := exec_coverOpen_active hon hload hrun hm hj hp hcirc hb
      refine ⟨t, hexec, hjobs, hopen, ?_⟩
      rw [hsender, hscan]
      refine ⟨rfl, rfl, rfl, ⟨_, rfl, rfl, rfl, rfl, rfl⟩, fun x hx hended => ?_⟩
      have hempty : s.scan.over.store = [] := Scan.over_store (by simp [hx, hended])
      rw [show s.scan.over.over = s.scan.over from ?_, hempty]
      simp [Scan.over, hx, hended]

end Sys2Proof.Machine
end
